-- ==== Sys2Proof/Word.lean ====
section
/-! DEFINITION. The word types of the block: the widths the spec gives its bytes, frames, host command words,
request codes and transfer status, and the type of a handle's number. -/

namespace Sys2Proof

/-- One byte of TX or RX (20_memory.md R37). -/
abbrev Byte := BitVec 8

/-- The 16-bit wire frame `F = byte0 ++ byte1` (00_scope.md R9, 30_encoding.md R53). -/
abbrev FrameWord := BitVec 16

/-- The 96-bit host command word `W` (30_encoding.md R49). -/
abbrev HostWord := BitVec 96

/-- The 4-bit transport request code (30_encoding.md R55). -/
abbrev RequestCode := BitVec 4

/-- The signed 32-bit status of a TRANSFER (42_transmit.md R87), as bits. -/
abbrev Status := BitVec 32

/-- The number of a handle other than `INVALID`: "any value the platform chooses" (10_state.md R30, R32). -/
abbrev Handle := Nat

end Sys2Proof
end

