-- ==== Sys2Proof/Syntax.lean ====
section
/-! DEFINITION. The instructions: one constructor for each row of spec/opcode_table.json, with the operands of its
three formats (HOSTCMD, FRAME16, TREQ), and the code words they are written in. -/

namespace Sys2Proof

/-- `channel_select`, "enum {A, B}" (10_state.md R17). -/
inductive Channel where
  | a
  | b
deriving DecidableEq, Repr

/-- `gain`, "enum {X1, X2}" (10_state.md R19). -/
inductive Gain where
  | x1
  | x2
deriving DecidableEq, Repr

/-- The INIT operand `W[79:0]`: the packed image of the source's DacConfiguration (30_encoding.md R51). The fields
have the widths of the encoding, so no operand out of range can be written. -/
structure InitImage where
  value : BitVec 16
  channel : Channel
  buffered : Bool
  gain : Gain
  active : Bool
  mode : BitVec 2
  bpw : BitVec 8
  speed : BitVec 32
  delay : BitVec 16
deriving DecidableEq, Repr

/-- The documented construction defaults (30_encoding.md R51, last column of the table; R58). -/
def InitImage.defaults : InitImage where
  value := 0
  channel := .a
  buffered := false
  gain := .x1
  active := true
  mode := 0
  bpw := 8
  speed := 10000000
  delay := 0

/-- The fields of a wire frame (30_encoding.md R53, R54). -/
structure FrameFields where
  channel : Channel
  buffered : Bool
  gain : Gain
  active : Bool
  value : BitVec 12
deriving DecidableEq, Repr

/-- The instructions: the four host commands, the frame as the device's command, and the nine transport requests. -/
inductive Instr where
  /-- NOP (43_driver.md R91). -/
  | nop
  /-- INIT (43_driver.md R92). -/
  | init (image : InitImage)
  /-- SETV (43_driver.md R93). -/
  | setv (value : BitVec 16)
  /-- CLOSE (43_driver.md R94). -/
  | close
  /-- DAC_WRITE (40_register_encoder.md R66). -/
  | dacWrite (fields : FrameFields)
  /-- OPEN (41_transport_lifecycle.md R70). -/
  | openBus
  /-- WR_MODE (41_transport_lifecycle.md R71). -/
  | wrMode
  /-- RD_MODE (41_transport_lifecycle.md R72). -/
  | rdMode
  /-- WR_BPW (41_transport_lifecycle.md R73). -/
  | wrBpw
  /-- RD_BPW (41_transport_lifecycle.md R74). -/
  | rdBpw
  /-- WR_SPEED (41_transport_lifecycle.md R75). -/
  | wrSpeed
  /-- RD_SPEED (41_transport_lifecycle.md R76). -/
  | rdSpeed
  /-- TRANSFER (42_transmit.md R80). -/
  | transfer
  /-- RELEASE (41_transport_lifecycle.md R78). -/
  | release
deriving DecidableEq, Repr

/-- A word in one of the block's three encodings (30_encoding.md R48). -/
inductive CodeWord where
  /-- A 96-bit HOSTCMD word (R49). -/
  | host (w : HostWord)
  /-- A 16-bit FRAME16 word (R53). -/
  | frame (w : FrameWord)
  /-- A 4-bit TREQ code (R55). -/
  | request (w : RequestCode)
deriving DecidableEq, Repr

end Sys2Proof
end

