-- ==== Sys2Proof/WellFormed.lean ====
section
/-! DEFINITION. Which words spell an instruction: the reserved-bit check of the host command word (30_encoding.md
R49) and the issued request codes (R56). An `Instr` needs no check: its operands have the widths of the encoding. -/

namespace Sys2Proof

/-- `W[93:80]` is all zero: the reserved field `rsv` of every host command (30_encoding.md R49). -/
def reservedZero (w : HostWord) : Bool := w.extractLsb' 80 14 == 0

/-- The operand bits a command does not use are all zero (30_encoding.md R49): all of `W[79:0]` for NOP and CLOSE,
`rsv2 = W[23:22]` for INIT (R51), `W[79:16]` for SETV (R52). -/
def unusedOperandZero (w : HostWord) : Bool :=
  if w.extractLsb' 94 2 = 1#2 then w.extractLsb' 22 2 == 0
  else if w.extractLsb' 94 2 = 2#2 then w.extractLsb' 16 64 == 0
  else w.extractLsb' 0 80 == 0

/-- The check the block makes first on each host command word (43_driver.md R90). -/
def hostWordWellFormed (w : HostWord) : Bool := reservedZero w && unusedOperandZero w

/-- "TREQ: codes 0x0 and 0xA to 0xF are never issued" (30_encoding.md R56). -/
def requestCodeIssued (w : RequestCode) : Bool := decide (1 ≤ w.toNat) && decide (w.toNat ≤ 9)

/-- Which code words spell an instruction. No FRAME16 pattern is reserved or illegal (30_encoding.md R56). -/
def CodeWord.wellFormed : CodeWord → Bool
  | .host w => hostWordWellFormed w
  | .frame _ => true
  | .request w => requestCodeIssued w

end Sys2Proof
end

