-- ==== Sys2Proof/Decode.lean ====
section
/-! DEFINITION. The decoder of the three encodings (30_encoding.md), total, rejecting the words WellFormed.lean
rejects, and the encoder, written from the same tables. -/

namespace Sys2Proof

/-- Bit 1 is channel B: the register and operand encoding A=0, B=1 (10_state.md R17, 30_encoding.md R51). -/
def channelOfBit (b : Bool) : Channel := if b then .b else .a

/-- The bit of a channel in the INIT operand (30_encoding.md R51). -/
def channelBit : Channel → Bool
  | .a => false
  | .b => true

/-- Bit 1 is X2: the register and operand encoding X1=0, X2=1 (10_state.md R19, 30_encoding.md R51). -/
def gainOfBit (b : Bool) : Gain := if b then .x2 else .x1

/-- The bit of a gain in the INIT operand (30_encoding.md R51). -/
def gainBit : Gain → Bool
  | .x1 => false
  | .x2 => true

/-- The fields of the INIT operand (30_encoding.md R51). -/
def decodeImage (w : HostWord) : InitImage where
  value := w.extractLsb' 0 16
  channel := channelOfBit (w.getLsbD 16)
  buffered := w.getLsbD 17
  gain := gainOfBit (w.getLsbD 18)
  active := w.getLsbD 19
  mode := w.extractLsb' 20 2
  bpw := w.extractLsb' 24 8
  speed := w.extractLsb' 32 32
  delay := w.extractLsb' 64 16

/-- The command the `op` field `W[95:94]` selects (30_encoding.md R50), where the reserved bits allow it (R49). -/
def decodeHost (w : HostWord) : Option Instr :=
  if hostWordWellFormed w then
    if w.extractLsb' 94 2 = 0#2 then some .nop
    else if w.extractLsb' 94 2 = 1#2 then some (.init (decodeImage w))
    else if w.extractLsb' 94 2 = 2#2 then some (.setv (w.extractLsb' 0 16))
    else some .close
  else none

/-- Reading the fields back from a frame (30_encoding.md R54): bit 15 set is channel A, bit 13 set is gain X1. -/
def decodeFrame (F : FrameWord) : FrameFields where
  channel := if F.getLsbD 15 then .a else .b
  buffered := F.getLsbD 14
  gain := if F.getLsbD 13 then .x1 else .x2
  active := F.getLsbD 12
  value := F.extractLsb' 0 12

/-- The transport request a code names (30_encoding.md R55). -/
def decodeRequest (w : RequestCode) : Option Instr :=
  match w.toNat with
  | 1 => some .openBus
  | 2 => some .wrMode
  | 3 => some .rdMode
  | 4 => some .wrBpw
  | 5 => some .rdBpw
  | 6 => some .wrSpeed
  | 7 => some .rdSpeed
  | 8 => some .transfer
  | 9 => some .release
  | _ => none

/-- The instruction a code word spells, if it spells one. -/
def decode : CodeWord → Option Instr
  | .host w => decodeHost w
  | .frame w => some (.dacWrite (decodeFrame w))
  | .request w => decodeRequest w

/-- The code word of `nbits` bits, in whole bytes, with value `w`: 96 bits are a HOSTCMD, 16 a FRAME16, and the 4 bits
of a TREQ stand in one byte (30_encoding.md R57). -/
def CodeWord.ofTable (nbits w : Nat) : Option CodeWord :=
  if nbits = 96 ∧ w < 2 ^ 96 then some (.host (BitVec.ofNat 96 w))
  else if nbits = 16 ∧ w < 2 ^ 16 then some (.frame (BitVec.ofNat 16 w))
  else if (nbits = 8 ∨ nbits = 4) ∧ w < 2 ^ 4 then some (.request (BitVec.ofNat 4 w))
  else none

/-- The instruction the decoder reads from an instruction of the opcode table's numbering. -/
def decodeTableWord (nbits w : Nat) : Option Instr := (CodeWord.ofTable nbits w).bind decode

/-- A host command word from its `op`, its reserved bits being zero, and its operand (30_encoding.md R49). -/
def hostWord (op : BitVec 2) (operand : BitVec 80) : HostWord := op ++ 0#14 ++ operand

/-- The packed INIT operand (30_encoding.md R51). -/
def encodeImage (c : InitImage) : BitVec 80 :=
  c.delay ++ c.speed ++ c.bpw ++ 0#2 ++ c.mode ++ BitVec.ofBool c.active ++ BitVec.ofBool (gainBit c.gain)
    ++ BitVec.ofBool c.buffered ++ BitVec.ofBool (channelBit c.channel) ++ c.value

/-- The wire frame with the given fields (30_encoding.md R53): the inverse of `decodeFrame`. -/
def frameWord (f : FrameFields) : FrameWord :=
  BitVec.ofBool (f.channel == .a) ++ BitVec.ofBool f.buffered ++ BitVec.ofBool (f.gain == .x1)
    ++ BitVec.ofBool f.active ++ f.value

/-- The code word of an instruction. -/
def encode : Instr → CodeWord
  | .nop => .host (hostWord 0 0)
  | .init c => .host (hostWord 1 (encodeImage c))
  | .setv v => .host (hostWord 2 (v.setWidth 80))
  | .close => .host (hostWord 3 0)
  | .dacWrite f => .frame (frameWord f)
  | .openBus => .request 0x1
  | .wrMode => .request 0x2
  | .rdMode => .request 0x3
  | .wrBpw => .request 0x4
  | .rdBpw => .request 0x5
  | .wrSpeed => .request 0x6
  | .rdSpeed => .request 0x7
  | .transfer => .request 0x8
  | .release => .request 0x9

/-- How many bits the opcode table gives a code word's row, in whole bytes. -/
def CodeWord.tableBits : CodeWord → Nat
  | .host _ => 96
  | .frame _ => 16
  | .request _ => 8

/-- The value of a code word, numbered as the opcode table numbers its bits. -/
def CodeWord.toNat : CodeWord → Nat
  | .host w => w.toNat
  | .frame w => w.toNat
  | .request w => w.toNat

end Sys2Proof
end

