-- ==== Sys2Proof/Config.lean ====
section
/-! DEFINITION. The parameters of the block (00_scope.md R8) and its free values: constants without a body, so that no
proof can see what they are. -/

namespace Sys2Proof

/-- One draw of the platform oracle (92_eei_decisions.md D14). Each request reads from it the answer it needs:
`accept` tells `Ok` from `Fail`, `handle` is the handle of an accepted OPEN, `word` the value of a read-back (its low
bits, as many as the register has) or the status of a TRANSFER (log 6). -/
structure Draw where
  accept : Bool
  handle : Handle
  word : BitVec 32
deriving DecidableEq, Repr, Inhabited

/-- The platform's n-th answer: a free value (92_eei_decisions.md D14, 93_implementation_defined.md I3 to I5, I7). -/
opaque Config.platformDraw : Nat → Draw

/-- The byte a TRANSFER, whose answer was the n-th draw, leaves at an offset of RX: a free value
(20_memory.md R39, 42_transmit.md R85, 93_implementation_defined.md I6). -/
opaque Config.rxByte : Nat → Nat → Byte

/-- `DEVICE_PATH`: OPEN, an opaque identifier (00_scope.md R8, 92_eei_decisions.md D17). -/
opaque Config.devicePath : String

/-- `FRAME_BYTES`: "exactly 2 bytes" (00_scope.md R8). -/
def Config.frameBytes : Nat := 2

/-- The default of the parameter `RX_LEN`, which is 2 (00_scope.md R8, 92_eei_decisions.md D16). The parameter itself is
`State.rxLen` (log 12). -/
def Config.rxLenDefault : Nat := 2

/-- `VALUE_MAX` (00_scope.md R8). -/
def Config.valueMax : Nat := 4095

/-- `MAX_SPEED_HZ` (00_scope.md R8). -/
def Config.maxSpeedHz : Nat := 10000000

/-- The default of the parameter `CHANNEL_BUG`, which is `false` (00_scope.md R8, 40_register_encoder.md R67). The parameter
itself is the field `channelBug` of the state (log 14). -/
def Config.channelBugDefault : Bool := false

end Sys2Proof
end

