-- ==== Sys2Proof/Machine/State.lean ====
section
/-! DEFINITION. The state of the block, every element of 10_state.md R12 and the two buffers of 20_memory.md R37, the
model's own carriers of input, output and platform answers, the reasons a step can stop, and the state after reset. -/

namespace Sys2Proof.Machine

/-- The lifecycle states of `STATE` (10_state.md R16). -/
inductive Lifecycle where
  | uninit
  | initializing
  | ready
  | closed
deriving DecidableEq, Repr

/-- The errors of the source's taxonomy (60_exceptions.md R97 to R101). -/
inductive TransportError where
  | openFailed
  | setModeFailed
  | setBitsPerWordFailed
  | setSpeedFailed
  | transferFailed
deriving DecidableEq, Repr

/-- What a completed host command returns to the host (60_exceptions.md R96). -/
inductive ResultCode where
  | ok
  | error (e : TransportError)
deriving DecidableEq, Repr

/-- The five usage-fault reasons (60_exceptions.md R102). -/
inductive UsageFault where
  /-- "SETV before READY" -/
  | setvBeforeReady
  /-- "CLOSE with no driver" -/
  | closeWithNoDriver
  /-- "INIT while READY" -/
  | initWhileReady
  /-- "INIT after CLOSED" -/
  | initAfterClosed
  /-- "SETV after CLOSED" -/
  | setvAfterClosed
deriving DecidableEq, Repr

/-- The four refusal reasons (60_exceptions.md R102). -/
inductive RefusalReason where
  /-- "reserved operand bits" (30_encoding.md R49) -/
  | reservedOperandBits
  /-- "bits_per_word != 8" (42_transmit.md R86) -/
  | bitsPerWordNot8
  /-- "reset while handle valid" (70_reset_and_hazards.md R115) -/
  | resetWhileHandleValid
  /-- "second host" (70_reset_and_hazards.md R121) -/
  | secondHost
deriving DecidableEq, Repr

/-- The transfer descriptor (42_transmit.md R80): the two bytes of the send buffer, the length of the receive buffer,
the transfer length, and the confirmed speed and word size as the registers hold them (log 17). -/
structure Descriptor where
  tx : Byte × Byte
  rxLen : Nat
  len : Nat
  speedHz : Option (BitVec 32)
  delayUs : BitVec 16
  bitsPerWord : Option (BitVec 8)
deriving DecidableEq, Repr

/-- One transport event `(kind, arguments, answer)` (10_state.md R33); the arguments and answers are those of
30_encoding.md R55. In a read-back's answer `none` is `Fail`; in a write's answer `true` is `Ok`. -/
inductive Event where
  | openBus (path : String) (answer : Option Handle)
  | wrMode (mode : BitVec 2) (ok : Bool)
  | rdMode (answer : Option (BitVec 2))
  | wrBpw (bpw : BitVec 8) (ok : Bool)
  | rdBpw (answer : Option (BitVec 8))
  | wrSpeed (speed : BitVec 32) (ok : Bool)
  | rdSpeed (answer : Option (BitVec 32))
  | transfer (d : Descriptor) (status : Status)
  | release
deriving DecidableEq, Repr

/-- What one TRANSFER puts on the bus: the confirmed mode and speed it runs at (`BUS_MODE`, `BUS_SPEED`), the delay, the
frame that goes out, and the 16 bits that come in from MISO into `RX[0..1]`, `RX[0]` in the high byte (log 31)
(42_transmit.md R80, R81, R85, R88, R89, 41_transport_lifecycle.md R79). A register that holds none stands as none (log 17). -/
structure Transmission where
  mode : Option (BitVec 2)
  speedHz : Option (BitVec 32)
  delayUs : BitVec 16
  sent : FrameWord
  shiftedIn : FrameWord
deriving DecidableEq, Repr

/-- What the outside world presents to the block, in order: a word, a power-on reset (70_reset_and_hazards.md R114), a
second host (R121). A host presents HOSTCMD words; a FRAME16 or TREQ word stands for that one row of the opcode table,
run alone (log 1, log 2). -/
inductive Input where
  | word (c : CodeWord)
  | reset
  | secondHost
deriving DecidableEq, Repr

/-- A byte buffer: offsets strictly rising, no entry equal to what an unlisted offset reads as (`Memory.wf`). -/
abbrev Memory := List Host.Cell

/-- The state of the block. The fields from `lifecycle` to `refused` are S0 to S17 of 10_state.md R12. -/
structure State where
  /-- S0 `STATE` (R16). -/
  lifecycle : Lifecycle
  /-- S1 `CFG_CHANNEL` (R17). -/
  cfgChannel : Channel
  /-- S2 `CFG_BUFFERED` (R18). -/
  cfgBuffered : Bool
  /-- S3 `CFG_GAIN` (R19). -/
  cfgGain : Gain
  /-- S4 `CFG_ACTIVE` (R20). -/
  cfgActive : Bool
  /-- S5 `CFG_INIT_VALUE` (R21). -/
  cfgInitValue : BitVec 16
  /-- S6 `CFG_MODE` (R22). -/
  cfgMode : BitVec 2
  /-- S7 `CFG_BPW` (R23). -/
  cfgBpw : BitVec 8
  /-- S8 `CFG_SPEED` (R24). -/
  cfgSpeed : BitVec 32
  /-- S9 `CFG_DELAY` (R25). -/
  cfgDelay : BitVec 16
  /-- S10 `BUS_MODE` (R27). -/
  busMode : Option (BitVec 2)
  /-- S11 `BUS_BPW` (R28). -/
  busBpw : Option (BitVec 8)
  /-- S12 `BUS_SPEED` (R29). -/
  busSpeed : Option (BitVec 32)
  /-- S13 `HANDLE`, `none` being `INVALID` (R30). -/
  handle : Option Handle
  /-- S14 `FRAME` (R31). -/
  frame : Option FrameWord
  /-- S15 `TRACE`, the oldest event first (R33). -/
  trace : List Event
  /-- S16 `FAULT` (R34). -/
  fault : List UsageFault
  /-- S17 `REFUSED` (R35). -/
  refused : List RefusalReason
  /-- The send buffer `TX`, offsets 0 and 1 (20_memory.md R37). -/
  tx : Memory
  /-- The receive scratch buffer `RX`, offsets 0 to `RX_LEN - 1` (20_memory.md R37). -/
  rx : Memory
  /-- The parameter `CHANNEL_BUG` (00_scope.md R8, 40_register_encoder.md R67): no register, and never written (log 14). -/
  channelBug : Bool
  /-- The parameter `RX_LEN` (00_scope.md R8, 92_eei_decisions.md D16), as the number of bytes by which it exceeds 2, so that
  it is at least 2 in every state: no register, and never written (`State.rxLen`; log 12). -/
  rxExtra : Nat
  /-- The model's own: what the TRANSFERs have put on the bus, the oldest first (log 32). -/
  wire : List Transmission
  /-- The model's own: the result codes returned to the host, the oldest first (60_exceptions.md R96; log 15). -/
  replies : List ResultCode
  /-- The model's own: what the outside world presents next (log 1). -/
  inputs : List Input
  /-- The model's own: the platform draws the state fixes beforehand; the further ones are `Config.platformDraw`
  (log 5). -/
  platform : List Draw
  /-- The model's own: how many platform draws are used (log 5). -/
  drawn : Nat
deriving DecidableEq, Repr

/-- Why a step stops with a fault. -/
inductive Fault where
  /-- Raised by INIT, SETV and CLOSE when `STATE = INITIALIZING`: the spec calls that case unreachable and gives it no
  effect (43_driver.md R90). Safe: the model stops where nothing is said. -/
  | commandWhileInitializing
deriving DecidableEq, Repr

/-- Why a step stops with a refusal. -/
inductive Refusal where
  /-- Raised by an arm of `exec` whose instruction has no meaning yet. Safe. -/
  | notModelled (mnemonic : String)
  /-- Raised by `step` on a TREQ code 0x0 or 0xA to 0xF: the block never issues one (30_encoding.md R56), so the spec
  gives it no effect. Safe. -/
  | requestCodeNeverIssued
deriving DecidableEq, Repr

/-- The block right after the power-on reset (10_state.md R36, 70_reset_and_hazards.md R114). The buffers and the
model's own fields have no reset value in the spec (log 1, 5, 11, 15, 32); the parameters have their defaults
(log 12, log 14). -/
def State.reset : State where
  lifecycle := .uninit
  cfgChannel := .a
  cfgBuffered := false
  cfgGain := .x1
  cfgActive := true
  cfgInitValue := 0
  cfgMode := 0
  cfgBpw := 8
  cfgSpeed := 10000000
  cfgDelay := 0
  busMode := none
  busBpw := none
  busSpeed := none
  handle := none
  frame := none
  trace := []
  fault := []
  refused := []
  tx := []
  rx := []
  channelBug := Config.channelBugDefault
  rxExtra := Config.rxLenDefault - 2
  wire := []
  replies := []
  inputs := []
  platform := []
  drawn := 0

end Sys2Proof.Machine
end

