-- ==== Sys2Proof/Machine/Flags.lean ====
section
/-! DEFINITION. The block has no status flags or condition codes (10_state.md R15). What stands in their place: the
numbers of states, results, reasons and requests, and the sign test of a transfer status. -/

namespace Sys2Proof.Machine

/-- The 2-bit code of a lifecycle state (10_state.md R16). -/
def Lifecycle.code : Lifecycle → BitVec 2
  | .uninit => 0
  | .initializing => 1
  | .ready => 2
  | .closed => 3

/-- The number of a result code (60_exceptions.md R96). -/
def ResultCode.code : ResultCode → Nat
  | .ok => 0
  | .error .openFailed => 1
  | .error .setModeFailed => 2
  | .error .setBitsPerWordFailed => 3
  | .error .setSpeedFailed => 4
  | .error .transferFailed => 5

/-- The spec's text of a usage-fault reason (60_exceptions.md R102). -/
def UsageFault.text : UsageFault → String
  | .setvBeforeReady => "SETV before READY"
  | .closeWithNoDriver => "CLOSE with no driver"
  | .initWhileReady => "INIT while READY"
  | .initAfterClosed => "INIT after CLOSED"
  | .setvAfterClosed => "SETV after CLOSED"

/-- The spec's text of a refusal reason (60_exceptions.md R102). -/
def RefusalReason.text : RefusalReason → String
  | .reservedOperandBits => "reserved operand bits"
  | .bitsPerWordNot8 => "bits_per_word != 8"
  | .resetWhileHandleValid => "reset while handle valid"
  | .secondHost => "second host"

/-- The TREQ code of an event's request (30_encoding.md R55). -/
def Event.code : Event → RequestCode
  | .openBus _ _ => 0x1
  | .wrMode _ _ => 0x2
  | .rdMode _ => 0x3
  | .wrBpw _ _ => 0x4
  | .rdBpw _ => 0x5
  | .wrSpeed _ _ => 0x6
  | .rdSpeed _ => 0x7
  | .transfer _ _ => 0x8
  | .release => 0x9

/-- "`st < 0` means failure", the status being signed; any `st >= 0` is success (42_transmit.md R87). -/
def statusFailed (st : Status) : Bool := st.slt 0

/-- A usage fault or a refusal stands in `FAULT` or `REFUSED`: the block takes no further host command
(10_state.md R34, R35). -/
def State.marked (s : State) : Bool := !s.fault.isEmpty || !s.refused.isEmpty

end Sys2Proof.Machine
end

