-- ==== Sys2Proof/Machine/Operands.lean ====
section
/-! DEFINITION. The operand computations: the register encoder (40_register_encoder.md), combinational and without
state, and the speed clamp (41_transport_lifecycle.md R69). -/

namespace Sys2Proof.Machine

/-- `CLAMP_VALUE(value) = min(value, 4095)`, 12 bits (40_register_encoder.md R59). -/
def clampValue (v : BitVec 16) : BitVec 12 := BitVec.ofNat 12 (min v.toNat Config.valueMax)

/-- `CLAMP_SPEED(clock_hz) = min(clock_hz, 10_000_000)`, 32 bits (41_transport_lifecycle.md R69). -/
def clampSpeed (hz : BitVec 32) : BitVec 32 := BitVec.ofNat 32 (min hz.toNat Config.maxSpeedHz)

/-- `CH_BIT` (40_register_encoder.md R60). With the parameter `CHANNEL_BUG` it is the channel-B constant for both
channels (R67). -/
def chBit (bug : Bool) (ch : Channel) : BitVec 8 := if !bug && ch == .a then 0x80 else 0x00

/-- `BUF_BIT` (40_register_encoder.md R61). -/
def bufBit (buffered : Bool) : BitVec 8 := if buffered then 0x40 else 0x00

/-- `GAIN_BIT`: set for gain X1 (40_register_encoder.md R62). -/
def gainMask (g : Gain) : BitVec 8 := if g == .x1 then 0x20 else 0x00

/-- `ACT_BIT` (40_register_encoder.md R63). -/
def actBit (active : Bool) : BitVec 8 := if active then 0x10 else 0x00

/-- `ENCODE(value)` (40_register_encoder.md R64), as a function of `CHANNEL_BUG`, the four configuration fields and
the value. -/
def encodeFrame (bug : Bool) (ch : Channel) (buffered : Bool) (g : Gain) (active : Bool) (value : BitVec 16) :
    FrameWord :=
  let v' := clampValue value
  let ctrl := chBit bug ch ||| bufBit buffered ||| gainMask g ||| actBit active
  let byte0 : BitVec 8 := ctrl ||| (v' >>> 8).setWidth 8
  let byte1 : BitVec 8 := v'.setWidth 8
  byte0 ++ byte1

/-- `ENCODE(value)` of the state's configuration registers, under its `CHANNEL_BUG` (40_register_encoder.md R64, R67,
10_state.md R26). -/
def State.encode (s : State) (value : BitVec 16) : FrameWord :=
  encodeFrame s.channelBug s.cfgChannel s.cfgBuffered s.cfgGain s.cfgActive value

/-- The frame the fields of a FRAME16 word give: `ENCODE` of them (40_register_encoder.md R66, R67). -/
def encodeFields (bug : Bool) (f : FrameFields) : FrameWord :=
  encodeFrame bug f.channel f.buffered f.gain f.active (f.value.setWidth 16)

end Sys2Proof.Machine
end

