-- ==== Sys2Proof/Machine/Ops.lean ====
section
/-! DEFINITION. The named operations over buffers, registers, trace and platform, the transport requests, and the one
shared operation that raises a transport error (60_exceptions.md R105). There is no return from an exception
(R106). -/

namespace Sys2Proof.Machine

/-! ### The byte buffers (20_memory.md R37 to R40) -/

/-- What an unlisted offset of a buffer reads as (DESIGN CHOICE, unsafe: log 11). -/
def Memory.unlisted : Byte := 0

/-- The byte at an offset. -/
def Memory.read : Memory → Nat → Byte
  | [], _ => Memory.unlisted
  | (a, x) :: m, off => if a = off then x else Memory.read m off

/-- Writing the byte at an offset; the form of `Memory.wf` is kept. -/
def Memory.write : Memory → Nat → Byte → Memory
  | [], off, v => if v = Memory.unlisted then [] else [(off, v)]
  | (a, x) :: m, off, v =>
    if off < a then (if v = Memory.unlisted then (a, x) :: m else (off, v) :: (a, x) :: m)
    else if off = a then (if v = Memory.unlisted then m else (off, v) :: m)
    else (a, x) :: Memory.write m off v

/-- The canonical form: offsets strictly rising, and no entry equal to what an unlisted offset reads as. -/
def Memory.wf (m : Memory) : Bool :=
  decide (m.Pairwise fun p q => p.1 < q.1) && m.all fun p => p.2 != Memory.unlisted

/-- Every listed offset lies in a buffer of `len` bytes. -/
def Memory.within (m : Memory) (len : Nat) : Bool := m.all fun p => decide (p.1 < len)

/-- The two buffers (20_memory.md R37). -/
inductive Buffer where
  | tx
  | rx
deriving DecidableEq, Repr

/-- `RX_LEN`, "natural number >= 2" (00_scope.md R8). -/
def State.rxLen (s : State) : Nat := s.rxExtra + 2

/-- A buffer's length in bytes (20_memory.md R37). -/
def State.bufferLen (s : State) : Buffer → Nat
  | .tx => Config.frameBytes
  | .rx => s.rxLen

/-- The contents of a buffer. -/
def State.buffer (s : State) : Buffer → Memory
  | .tx => s.tx
  | .rx => s.rx

/-- `MemRead(buf, off, 1)`: no byte where the buffer has no such offset (00_scope.md R11, 20_memory.md R37). -/
def memRead (b : Buffer) (off : Nat) (s : State) : Option Byte :=
  if off < s.bufferLen b then some ((s.buffer b).read off) else none

/-- `MemWrite(TX, 0, 1, F[15:8])` and `MemWrite(TX, 1, 1, F[7:0])` (20_memory.md R38). -/
def Memory.writeFrame (m : Memory) (F : FrameWord) : Memory :=
  (m.write 0 (F.extractLsb' 8 8)).write 1 (F.extractLsb' 0 8)

/-- The frame whose bytes stand in `TX`. -/
def Memory.readFrame (m : Memory) : FrameWord := m.read 0 ++ m.read 1

/-- `for i in 0 .. RX_LEN-1: MemWrite(RX, i, 1, any)` (42_transmit.md R80, R85), `len` being `RX_LEN`, after the
n-th draw. -/
def Memory.fillAny (m : Memory) (len n : Nat) : Memory :=
  (List.range len).foldl (fun m i => m.write i (Config.rxByte n i)) m

/-! ### The platform's answers (92_eei_decisions.md D14) -/

/-- The platform's `k`-th answer from now. -/
def State.answer (s : State) (k : Nat) : Draw :=
  s.platform.getD (s.drawn + k) (Config.platformDraw (s.drawn + k))

/-- An OPEN's answer: `Ok(h)` or `Fail` (41_transport_lifecycle.md R70). -/
def openAnswer (d : Draw) : Option Handle := if d.accept then some d.handle else none

/-- A read-back's answer: `Ok(v)`, of the register's width, or `Fail` (41_transport_lifecycle.md R72, R74, R76). -/
def readAnswer (w : Nat) (d : Draw) : Option (BitVec w) := if d.accept then some (d.word.setWidth w) else none

/-- The trace gains one event (10_state.md R33). -/
def State.record (s : State) (e : Event) : State := { s with trace := s.trace ++ [e] }

/-- A request that the platform answered: its event, and one draw used. -/
def State.issue (s : State) (e : Event) : State := { s with trace := s.trace ++ [e], drawn := s.drawn + 1 }

/-! ### Results, faults, refusals (60_exceptions.md R96, R102) -/

/-- `return r`: the host receives a result code (00_scope.md R11). -/
def State.reply (s : State) (r : ResultCode) : State := { s with replies := s.replies ++ [r] }

/-- `fault UsageFault(reason)`: "changes no register other than `FAULT`" (43_driver.md R90, 10_state.md R34). -/
def State.usageFault (s : State) (f : UsageFault) : State := { s with fault := s.fault ++ [f] }

/-- `refuse(reason)` (00_scope.md R11, 10_state.md R35). -/
def State.refuse (s : State) (r : RefusalReason) : State := { s with refused := s.refused ++ [r] }

/-! ### Errors (60_exceptions.md R105) -/

/-- `CLOSE_HANDLE()`: one RELEASE, unless `HANDLE` is `INVALID` (41_transport_lifecycle.md R78). -/
def State.closeHandle (s : State) : State :=
  match s.handle with
  | none => s
  | some _ => { s.record .release with handle := none }

/-- "S1..S12, S14 <- reset values" and "STATE <- UNINIT" of ABORT (43_driver.md R92, 10_state.md R36). -/
def State.rollback (s : State) : State :=
  { s with
    lifecycle := .uninit
    cfgChannel := .a
    cfgBuffered := false
    cfgGain := .x1
    cfgActive := true
    cfgInitValue := 0
    cfgMode := 0
    cfgBpw := 8
    cfgSpeed := 10000000
    cfgDelay := 0
    busMode := none
    busBpw := none
    busSpeed := none
    frame := none }

/-- `ABORT(e)` (43_driver.md R92). -/
def State.abort (s : State) (e : TransportError) : State := (s.closeHandle.rollback).reply (.error e)

/-- `raise TransportError(e)`: inside INIT the abort actions, in SETV nothing but the returned code
(60_exceptions.md R105). What tells the two apart is `STATE`, which is INITIALIZING during INIT and then only
(10_state.md R16; log 4). -/
def State.raise (s : State) (e : TransportError) : State :=
  if s.lifecycle = .initializing then s.abort e else s.reply (.error e)

/-! ### The transport requests -/

/-- How a part of a command ends: it goes on, it raises an error, or it is refused and the command ends with no
result. -/
inductive Attempt where
  | ok (s : State)
  | error (e : TransportError) (s : State)
  | refused (s : State)
deriving DecidableEq, Repr

/-- Go on with the next part where the first one went well: "It stops at the first failure, and no later request of
the sequence is issued" (41_transport_lifecycle.md R77, 60_exceptions.md R104). -/
def Attempt.andThen : Attempt → (State → Attempt) → Attempt
  | .ok s, f => f s
  | .error e s, _ => .error e s
  | .refused s, _ => .refused s

/-- The end of a request that stands alone: an error is raised, and nothing is returned otherwise (log 2). -/
def Attempt.settle : Attempt → State
  | .ok s => s
  | .error e s => s.raise e
  | .refused s => s

/-- `OPEN` (41_transport_lifecycle.md R70). The rule has `HANDLE = INVALID` on entry, as it is inside INIT. DESIGN CHOICE
(log 3): an OPEN run alone while a handle is held overwrites it, and issues no RELEASE. -/
def requestOpen (s : State) : Attempt :=
  match openAnswer (s.answer 0) with
  | some h => .ok { s.issue (.openBus Config.devicePath (some h)) with handle := some h }
  | none => .error .openFailed (s.issue (.openBus Config.devicePath none))

/-- A write of a bus parameter, whose event is `ev` of whether the platform took it (41_transport_lifecycle.md R71,
R73, R75). -/
def requestWrite (e : TransportError) (ev : Bool → Event) (s : State) : Attempt :=
  if (s.answer 0).accept then .ok (s.issue (ev true)) else .error e (s.issue (ev false))

/-- `WR_MODE` (41_transport_lifecycle.md R71). -/
def requestWrMode (s : State) : Attempt := requestWrite .setModeFailed (.wrMode s.cfgMode) s

/-- `WR_BPW` (41_transport_lifecycle.md R73). -/
def requestWrBpw (s : State) : Attempt := requestWrite .setBitsPerWordFailed (.wrBpw s.cfgBpw) s

/-- `WR_SPEED` (41_transport_lifecycle.md R75). -/
def requestWrSpeed (s : State) : Attempt := requestWrite .setSpeedFailed (.wrSpeed s.cfgSpeed) s

/-- `RD_MODE` (41_transport_lifecycle.md R72): the confirmed value is stored and not compared. -/
def requestRdMode (s : State) : Attempt :=
  match readAnswer 2 (s.answer 0) with
  | some m => .ok { s.issue (.rdMode (some m)) with busMode := some m }
  | none => .error .setModeFailed (s.issue (.rdMode none))

/-- `RD_BPW` (41_transport_lifecycle.md R74). -/
def requestRdBpw (s : State) : Attempt :=
  match readAnswer 8 (s.answer 0) with
  | some b => .ok { s.issue (.rdBpw (some b)) with busBpw := some b }
  | none => .error .setBitsPerWordFailed (s.issue (.rdBpw none))

/-- `RD_SPEED` (41_transport_lifecycle.md R76): stored unchanged, not clamped again. -/
def requestRdSpeed (s : State) : Attempt :=
  match readAnswer 32 (s.answer 0) with
  | some v => .ok { s.issue (.rdSpeed (some v)) with busSpeed := some v }
  | none => .error .setSpeedFailed (s.issue (.rdSpeed none))

/-- `CONFIGURE()` (41_transport_lifecycle.md R77). -/
def configure (s : State) : Attempt :=
  (((((requestWrMode s).andThen requestRdMode).andThen requestWrBpw).andThen requestRdBpw).andThen
    requestWrSpeed).andThen requestRdSpeed

/-- The transfer descriptor (42_transmit.md R80): `BUS_SPEED` and `BUS_BPW`, the confirmed values (R79). -/
def State.descriptor (s : State) : Descriptor where
  tx := (s.tx.read 0, s.tx.read 1)
  rxLen := s.rxLen
  len := Config.frameBytes
  speedHz := s.busSpeed
  delayUs := s.cfgDelay
  bitsPerWord := s.busBpw

/-- The two writes of `TX` that begin TRANSMIT (42_transmit.md R80, 20_memory.md R38). -/
def State.putFrame (s : State) (F : FrameWord) : State := { s with tx := s.tx.writeFrame F }

/-- What a TRANSFER of a frame puts on the bus: it runs in the confirmed `BUS_MODE`, at the confirmed `BUS_SPEED`
(42_transmit.md R80, 41_transport_lifecycle.md R79, 70_reset_and_hazards.md R120), and the bits shifted in are those that
`RX[0..1]` takes (42_transmit.md R85). DESIGN CHOICE (log 31): the first bit in is bit 7 of `RX[0]`, and `RX[0]` is filled
before `RX[1]`; the spec orders the bits going out only. -/
def State.transmission (s : State) (F : FrameWord) : Transmission where
  mode := s.busMode
  speedHz := s.busSpeed
  delayUs := s.cfgDelay
  sent := F
  shiftedIn := Config.rxByte s.drawn 0 ++ Config.rxByte s.drawn 1

/-- The TRANSFER request of TRANSMIT: its event, what goes over the bus, and `RX` taking any bytes (42_transmit.md R80,
R85). -/
def State.sent (s : State) (F : FrameWord) : State :=
  { (s.putFrame F).issue (.transfer (s.putFrame F).descriptor (s.answer 0).word) with
    rx := s.rx.fillAny s.rxLen s.drawn, wire := s.wire ++ [s.transmission F] }

/-- `TRANSMIT(F)` (42_transmit.md R80, R87). A `BUS_BPW` other than 8 (none among them, log 17) is refused with no
event, `TX` being written (R86). -/
def transmit (F : FrameWord) (s : State) : Attempt :=
  if s.busBpw = some 8 then
    if statusFailed (s.answer 0).word then .error .transferFailed (s.sent F) else .ok (s.sent F)
  else .refused ((s.putFrame F).refuse .bitsPerWordNot8)

end Sys2Proof.Machine
end

