-- ==== Sys2Proof/Machine/Driver.lean ====
section
/-! DEFINITION. The host commands and the controller state machine (43_driver.md). -/

namespace Sys2Proof.Machine

/-- NOP (43_driver.md R91): "No state changes and no transport request is issued"; the host receives `Ok`. -/
def execNop (s : State) : Host.Outcome State Fault Refusal := .next (s.reply .ok)

/-- INIT's first lines: S1 to S9 from the operand, the speed clamped, and `STATE <- INITIALIZING` (43_driver.md R92). -/
def State.latch (s : State) (c : InitImage) : State :=
  { s with
    lifecycle := .initializing
    cfgChannel := c.channel
    cfgBuffered := c.buffered
    cfgGain := c.gain
    cfgActive := c.active
    cfgInitValue := c.value
    cfgMode := c.mode
    cfgBpw := c.bpw
    cfgSpeed := clampSpeed c.speed
    cfgDelay := c.delay }

/-- `F = ENCODE(value); TRANSMIT(F); FRAME <- F`, `FRAME` being written only after a success (43_driver.md R92, R93,
10_state.md R31). -/
def transmitValue (value : BitVec 16) (s : State) : Attempt :=
  (transmit (s.encode value) s).andThen fun t => .ok { t with frame := some (s.encode value) }

/-- INIT's requests, in order: OPEN, CONFIGURE, the initial frame (43_driver.md R92). -/
def bringUp (s : State) : Attempt :=
  ((requestOpen s).andThen configure).andThen fun t => transmitValue t.cfgInitValue t

/-- `INIT(W)` in `UNINIT` (43_driver.md R92). A refusal inside it leaves `STATE = INITIALIZING` (R95). -/
def runInit (c : InitImage) (s : State) : State :=
  match bringUp (s.latch c) with
  | .ok t => { t with lifecycle := .ready }.reply .ok
  | .error e t => t.raise e
  | .refused t => t

/-- INIT (43_driver.md R90, R92). -/
def execInit (c : InitImage) (s : State) : Host.Outcome State Fault Refusal :=
  match s.lifecycle with
  | .uninit => .next (runInit c s)
  | .ready => .next (s.usageFault .initWhileReady)
  | .closed => .next (s.usageFault .initAfterClosed)
  | .initializing => .fault .commandWhileInitializing

/-- `SETV(value)` in `READY` (43_driver.md R93). -/
def runSetv (value : BitVec 16) (s : State) : State :=
  match transmitValue value s with
  | .ok t => t.reply .ok
  | .error e t => t.raise e
  | .refused t => t

/-- SETV (43_driver.md R90, R93). -/
def execSetv (value : BitVec 16) (s : State) : Host.Outcome State Fault Refusal :=
  match s.lifecycle with
  | .uninit => .next (s.usageFault .setvBeforeReady)
  | .ready => .next (runSetv value s)
  | .closed => .next (s.usageFault .setvAfterClosed)
  | .initializing => .fault .commandWhileInitializing

/-- CLOSE (43_driver.md R90, R94). -/
def execClose (s : State) : Host.Outcome State Fault Refusal :=
  match s.lifecycle with
  | .uninit => .next (s.usageFault .closeWithNoDriver)
  | .ready => .next ({ s.closeHandle with lifecycle := .closed }.reply .ok)
  | .closed => .next (s.reply .ok)
  | .initializing => .fault .commandWhileInitializing

end Sys2Proof.Machine
end

