-- ==== Sys2Proof/Machine/Transmit.lean ====
section
/-! DEFINITION. The data half of the transmitter: TRANSFER (42_transmit.md R80) and DAC_WRITE, the frame as sent
(40_register_encoder.md R66), each run alone (log 2). -/

namespace Sys2Proof.Machine

/-- TRANSFER of the frame whose bytes stand in `TX` (42_transmit.md R80). -/
def execTransfer (s : State) : Host.Outcome State Fault Refusal := .next (transmit s.tx.readFrame s).settle

/-- DAC_WRITE: "the block computes `F` by rule R64 and delivers it by TRANSFER" (40_register_encoder.md R66). `FRAME`
is written by INIT and SETV only (10_state.md R31; log 2). -/
def execDacWrite (f : FrameFields) (s : State) : Host.Outcome State Fault Refusal :=
  .next (transmit (encodeFields s.channelBug f) s).settle

end Sys2Proof.Machine
end

