-- ==== Sys2Proof/Machine/Transport.lean ====
section
/-! DEFINITION. The requests of the transport lifecycle (41_transport_lifecycle.md), each run alone as one request of
the block (log 2). -/

namespace Sys2Proof.Machine

/-- OPEN (41_transport_lifecycle.md R70). -/
def execOpenBus (s : State) : Host.Outcome State Fault Refusal := .next (requestOpen s).settle

/-- WR_MODE (41_transport_lifecycle.md R71). -/
def execWrMode (s : State) : Host.Outcome State Fault Refusal := .next (requestWrMode s).settle

/-- RD_MODE (41_transport_lifecycle.md R72). -/
def execRdMode (s : State) : Host.Outcome State Fault Refusal := .next (requestRdMode s).settle

/-- WR_BPW (41_transport_lifecycle.md R73). -/
def execWrBpw (s : State) : Host.Outcome State Fault Refusal := .next (requestWrBpw s).settle

/-- RD_BPW (41_transport_lifecycle.md R74). -/
def execRdBpw (s : State) : Host.Outcome State Fault Refusal := .next (requestRdBpw s).settle

/-- WR_SPEED (41_transport_lifecycle.md R75). -/
def execWrSpeed (s : State) : Host.Outcome State Fault Refusal := .next (requestWrSpeed s).settle

/-- RD_SPEED (41_transport_lifecycle.md R76). -/
def execRdSpeed (s : State) : Host.Outcome State Fault Refusal := .next (requestRdSpeed s).settle

/-- RELEASE, issued through `CLOSE_HANDLE` (41_transport_lifecycle.md R78). -/
def execRelease (s : State) : Host.Outcome State Fault Refusal := .next s.closeHandle

end Sys2Proof.Machine
end

