-- ==== Sys2Proof/Machine/Dispatch.lean ====
section
/-! DEFINITION. The meaning of each instruction, one arm for each constructor. -/

namespace Sys2Proof.Machine

def exec (i : Instr) (s : State) : Host.Outcome State Fault Refusal :=
  match i with
  | .nop => Sys2Proof.Machine.execNop s
  | .init c => Sys2Proof.Machine.execInit c s
  | .setv v => Sys2Proof.Machine.execSetv v s
  | .close => Sys2Proof.Machine.execClose s
  | .dacWrite f => Sys2Proof.Machine.execDacWrite f s
  | .openBus => Sys2Proof.Machine.execOpenBus s
  | .wrMode => Sys2Proof.Machine.execWrMode s
  | .rdMode => Sys2Proof.Machine.execRdMode s
  | .wrBpw => Sys2Proof.Machine.execWrBpw s
  | .rdBpw => Sys2Proof.Machine.execRdBpw s
  | .wrSpeed => Sys2Proof.Machine.execWrSpeed s
  | .rdSpeed => Sys2Proof.Machine.execRdSpeed s
  | .transfer => Sys2Proof.Machine.execTransfer s
  | .release => Sys2Proof.Machine.execRelease s

end Sys2Proof.Machine
end

