-- ==== Sys2Proof/Machine/Fetch.lean ====
section
/-! DEFINITION. How the block takes what the outside world presents: a host command word (30_encoding.md R49), the
power-on reset (70_reset_and_hazards.md R114, R115), a second host (R121). -/

namespace Sys2Proof.Machine

/-- The power-on reset: every element at its reset value (70_reset_and_hazards.md R114). The parameters
`CHANNEL_BUG` and `RX_LEN`, the inputs still to come and the platform's draws are no state of the block and stay (log 10,
log 12, log 14). -/
def State.powerOn (s : State) : State :=
  { State.reset with
    channelBug := s.channelBug, rxExtra := s.rxExtra, inputs := s.inputs, platform := s.platform, drawn := s.drawn }

/-- A reset, refused while `HANDLE != INVALID` (70_reset_and_hazards.md R115). -/
def State.takeReset (s : State) : State :=
  if s.handle.isSome then s.refuse .resetWhileHandleValid else s.powerOn

/-- What a step finds to do. -/
inductive Taken where
  /-- No input: the block waits. -/
  | idle
  /-- The step is done with this state, and runs no instruction. -/
  | done (s : State)
  /-- The step runs an instruction in this state. -/
  | run (i : Instr) (s : State)
  /-- A request code that is never issued. -/
  | never
deriving DecidableEq, Repr

/-- A word presented to a block without a mark: the reserved-bit refusal first, then the command (43_driver.md R90,
60_exceptions.md R104). -/
def takeWord (c : CodeWord) (s : State) : Taken :=
  match decode c, c with
  | some i, _ => .run i s
  | none, .host _ => .done (s.refuse .reservedOperandBits)
  | none, _ => .never

/-- An input taken from the front of `inputs`, `s` being the state without it. A block with a mark takes no host
command (10_state.md R34, R35); the reset is no host command (log 9, log 10). -/
def takeInput (i : Input) (s : State) : Taken :=
  match i with
  | .reset => .done s.takeReset
  | .word c => if s.marked then .done s else takeWord c s
  | .secondHost => if s.marked then .done s else .done (s.refuse .secondHost)

/-- What the next step does. -/
def fetch (s : State) : Taken :=
  match s.inputs with
  | [] => .idle
  | i :: rest => takeInput i { s with inputs := rest }

end Sys2Proof.Machine
end

