-- ==== Sys2Proof/Machine/Step.lean ====
section
/-! DEFINITION. One step of the block: the next input is taken and, where it is a command, run as one atomic step
(00_scope.md R6). -/

namespace Sys2Proof.Machine

/-- One step. With no input the block waits and nothing changes (70_reset_and_hazards.md R114). -/
def step (s : State) : Host.Outcome State Fault Refusal :=
  match fetch s with
  | .idle => .next s
  | .done t => .next t
  | .run i t => exec i t
  | .never => .refused .requestCodeNeverIssued

/-- The state with an instruction of the opcode table presented as the next input, so that the next step runs it
(log 1). -/
def State.withFetchWord (s : State) (nbits w : Nat) : State :=
  match CodeWord.ofTable nbits w with
  | some c => { s with inputs := .word c :: s.inputs }
  | none => s

end Sys2Proof.Machine
end

