-- ==== Sys2Proof/Machine/Assembler.lean ====
section
/-! DEFINITION. The host-command assembly syntax (30_encoding.md R58): one command on a line, upper-case mnemonics, a
semicolon starts a comment. A line is a list of characters. Where R58 leaves the notation open (white space, the order
of INIT keys, the case of hexadecimal digits), log 24 says what is accepted. -/

namespace Sys2Proof.Machine

/-- White space inside a line. -/
def isBlank (c : Char) : Bool := c == ' ' || c == '\t'

/-- A text without white space at its ends. -/
def trimBlanks (cs : List Char) : List Char := ((cs.dropWhile isBlank).reverse.dropWhile isBlank).reverse

/-- The pieces of a text between the occurrences of a character. -/
def splitAtChar (sep : Char) : List Char → List (List Char)
  | [] => [[]]
  | c :: cs =>
    match splitAtChar sep cs with
    | [] => [[c]]
    | p :: ps => if c = sep then [] :: p :: ps else (c :: p) :: ps

/-- The value of a digit. -/
def digitValue (c : Char) : Option Nat :=
  if '0' ≤ c ∧ c ≤ '9' then some (c.toNat - '0'.toNat)
  else if 'a' ≤ c ∧ c ≤ 'f' then some (c.toNat - 'a'.toNat + 10)
  else if 'A' ≤ c ∧ c ≤ 'F' then some (c.toNat - 'A'.toNat + 10)
  else none

/-- The number a text of digits spells, `acc` being the value of those before. -/
def parseDigits (base : Nat) : Nat → List Char → Option Nat
  | acc, [] => some acc
  | acc, c :: cs =>
    match digitValue c with
    | some d => if d < base then parseDigits base (acc * base + d) cs else none
    | none => none

/-- "Numbers are decimal or `0x`-prefixed hexadecimal." -/
def parseNumber : List Char → Option Nat
  | [] => none
  | ['0', 'x'] => none
  | '0' :: 'x' :: ds => parseDigits 16 0 ds
  | ds => parseDigits 10 0 ds

/-- "An operand outside its field's width is an assembly error, not a clamp." -/
def parseField (w : Nat) (cs : List Char) : Option (BitVec w) :=
  (parseNumber cs).bind fun n => if n < 2 ^ w then some (BitVec.ofNat w n) else none

/-- A one-bit operand, `0|1`. -/
def parseBit (cs : List Char) : Option Bool :=
  if cs = ['0'] then some false else if cs = ['1'] then some true else none

/-- One `key=value` of an INIT line. -/
inductive Setting where
  | value (v : BitVec 16)
  | channel (c : Channel)
  | buffered (b : Bool)
  | gain (g : Gain)
  | active (b : Bool)
  | mode (m : BitVec 2)
  | bpw (b : BitVec 8)
  | speed (s : BitVec 32)
  | delay (d : BitVec 16)
deriving DecidableEq, Repr

/-- The number of a setting's key, to tell whether a key appears twice. -/
def Setting.key : Setting → Nat
  | .value _ => 0
  | .channel _ => 1
  | .buffered _ => 2
  | .gain _ => 3
  | .active _ => 4
  | .mode _ => 5
  | .bpw _ => 6
  | .speed _ => 7
  | .delay _ => 8

/-- The operand with one field set. -/
def Setting.apply (c : InitImage) : Setting → InitImage
  | .value v => { c with value := v }
  | .channel ch => { c with channel := ch }
  | .buffered b => { c with buffered := b }
  | .gain g => { c with gain := g }
  | .active b => { c with active := b }
  | .mode m => { c with mode := m }
  | .bpw b => { c with bpw := b }
  | .speed s => { c with speed := s }
  | .delay d => { c with delay := d }

/-- The setting a text `key=value` spells. -/
def parseSetting (item : List Char) : Option Setting :=
  match splitAtChar '=' item with
  | [k, v] =>
    match String.ofList (trimBlanks k) with
    | "value" => (parseField 16 (trimBlanks v)).map .value
    | "channel" =>
      if trimBlanks v = ['A'] then some (.channel .a)
      else if trimBlanks v = ['B'] then some (.channel .b)
      else none
    | "buffered" => (parseBit (trimBlanks v)).map .buffered
    | "gain" =>
      if trimBlanks v = ['X', '1'] then some (.gain .x1)
      else if trimBlanks v = ['X', '2'] then some (.gain .x2)
      else none
    | "active" => (parseBit (trimBlanks v)).map .active
    | "mode" => (parseField 2 (trimBlanks v)).map .mode
    | "bpw" => (parseField 8 (trimBlanks v)).map .bpw
    | "speed" => (parseField 32 (trimBlanks v)).map .speed
    | "delay" => (parseField 16 (trimBlanks v)).map .delay
    | _ => none
  | _ => none

/-- The INIT operand of settings: "Each INIT key may appear at most once", and "An omitted key takes the source's
documented default". -/
def imageOf (settings : List Setting) : Option InitImage :=
  if (settings.map Setting.key).Nodup then some (settings.foldl Setting.apply InitImage.defaults) else none

/-- What a line spells. -/
inductive AsmLine where
  /-- Nothing but white space and a comment. -/
  | blank
  /-- A command. -/
  | command (i : Instr)
  /-- An assembly error. -/
  | error
deriving DecidableEq, Repr

/-- A parsed operand, or an error. -/
def AsmLine.ofOption : Option Instr → AsmLine
  | some i => .command i
  | none => .error

/-- The command one line spells (30_encoding.md R58). -/
def assembleLine (line : List Char) : AsmLine :=
  let code := trimBlanks (line.takeWhile (· != ';'))
  let word := code.takeWhile fun c => !isBlank c
  let rest := trimBlanks (code.drop word.length)
  match String.ofList word with
  | "" => .blank
  | "NOP" => if rest = [] then .command .nop else .error
  | "CLOSE" => if rest = [] then .command .close else .error
  | "SETV" => .ofOption ((parseField 16 rest).map .setv)
  | "INIT" =>
    if rest = [] then .command (.init InitImage.defaults)
    else .ofOption ((((splitAtChar ',' rest).map parseSetting).mapM id).bind fun ss => (imageOf ss).map .init)
  | _ => .error

/-- The code words of a program, one line after the other; none where a line is in error. -/
def assemble : List (List Char) → Option (List CodeWord)
  | [] => some []
  | l :: ls =>
    match assembleLine l with
    | .blank => assemble ls
    | .command i => (assemble ls).map (encode i :: ·)
    | .error => none

end Sys2Proof.Machine
end

