-- ==== Sys2Proof/Machine/Wire.lean ====
section
/-! DEFINITION. What one TRANSFER stands for on the bus: serialization, clock polarity and phase, chip select
(42_transmit.md R81 to R84, R88, R89), and what the device has received (20_memory.md R47, 70_reset_and_hazards.md
R122). No rule of the block's state depends on these functions. UNVERIFIED against the source: the bit order and the
waveform are the spec's decisions D9 to D12 and general knowledge (log 19). -/

namespace Sys2Proof.Machine

/-- `CPOL = BUS_MODE[1]` (42_transmit.md R81). -/
def cpol (mode : BitVec 2) : Bool := mode.getLsbD 1

/-- `CPHA = BUS_MODE[0]` (42_transmit.md R81). -/
def cpha (mode : BitVec 2) : Bool := mode.getLsbD 0

/-- The bit sequence `s[0..15]`, `s[k] = F[15 - k]` (42_transmit.md R82). -/
def serialize (F : FrameWord) : List Bool := (List.range 16).map fun k => F.getLsbD (15 - k)

/-- The bits that go out and come in together, pair by pair: the transfer is full duplex (42_transmit.md R85).
DESIGN CHOICE (log 31): the spec orders the bits going out only; those coming in are taken in the same order, the most
significant bit first. -/
def exchanged (out back : FrameWord) : List (Bool × Bool) := (serialize out).zip (serialize back)

/-- What happens on the bus's pins, in order. -/
inductive Pin where
  /-- Chip select is asserted. -/
  | select
  /-- Chip select is released. -/
  | deselect
  /-- SCLK goes to a level. -/
  | clock (level : Bool)
  /-- The master puts a bit on MOSI. -/
  | data (bit : Bool)
  /-- The device puts a bit on MISO. -/
  | miso (bit : Bool)
  /-- A wait of at least so many microseconds (42_transmit.md R88). -/
  | wait (us : BitVec 16)
deriving DecidableEq, Repr

/-- The pulses with `CPHA = 0`: MOSI holds the first bit already, and changes to the next on each trailing edge
(42_transmit.md R83). DESIGN CHOICE (log 31): after the last bit, where the rule names no next one, MOSI keeps it; and the
device puts its bits on MISO where the master puts its own on MOSI. -/
def pulsesLeading (pol : Bool) : List (Bool × Bool) → List Pin
  | [] => []
  | [_] => [.clock (!pol), .clock pol]
  | _ :: b :: rest =>
    .clock (!pol) :: .clock pol :: .data b.1 :: .miso b.2 :: pulsesLeading pol (b :: rest)

/-- The pulses with `CPHA = 1`: MOSI takes each bit at the leading edge (42_transmit.md R83). DESIGN CHOICE (log 31): the
device puts its bits on MISO where the master puts its own on MOSI. -/
def pulsesTrailing (pol : Bool) (bits : List (Bool × Bool)) : List Pin :=
  bits.flatMap fun b => [.clock (!pol), .data b.1, .miso b.2, .clock pol]

/-- Clock and data of a bit sequence (42_transmit.md R83). -/
def clocked (pol pha : Bool) (bits : List (Bool × Bool)) : List Pin :=
  if pha then pulsesTrailing pol bits
  else bits.head?.toList.flatMap (fun b => [.data b.1, .miso b.2]) ++ pulsesLeading pol bits

/-- The waveform of one TRANSFER, `out` going out and `back` coming in: one chip-select frame of exactly 16 bits, released
after the delay (42_transmit.md R83, R84, R85, R88). SCLK rests at `CPOL` before and after it. DESIGN CHOICE (log 31): with
`CPHA = 0` chip select is asserted before the first bit is put on MOSI, where the spec orders each only before the first
clock edge. -/
def waveform (mode : BitVec 2) (delay : BitVec 16) (out back : FrameWord) : List Pin :=
  .select :: (clocked (cpol mode) (cpha mode) (exchanged out back) ++ [.wait delay, .deselect])

/-- The two data lines. -/
inductive DataLine where
  | mosi
  | miso
deriving DecidableEq, Repr

/-- The bits sampled from a data line (42_transmit.md R83), `sel`, `level` and `value` being what stands on chip select, SCLK
and the line: on the leading edge (away from `CPOL`) with `CPHA = 0`, on the trailing edge (back to `CPOL`) with `CPHA = 1`,
while chip select is asserted (R84). The receiver samples MOSI and the master samples MISO, "on the same edges". -/
def sampled (line : DataLine) (pol pha : Bool) (sel level value : Bool) : List Pin → List Bool
  | [] => []
  | .select :: rest => sampled line pol pha true level value rest
  | .deselect :: rest => sampled line pol pha false level value rest
  | .data b :: rest => sampled line pol pha sel level (if line = .mosi then b else value) rest
  | .miso b :: rest => sampled line pol pha sel level (if line = .miso then b else value) rest
  | .wait _ :: rest => sampled line pol pha sel level value rest
  | .clock l :: rest =>
    if sel && level != l && (l != pol) != pha then value :: sampled line pol pha sel l value rest
    else sampled line pol pha sel l value rest

/-- The frame a receiver puts together from its bits, the first one the most significant (42_transmit.md R82). -/
def deserialize (bits : List Bool) : FrameWord :=
  bits.foldl (fun F b => (F <<< 1) ||| (BitVec.ofBool b).setWidth 16) 0

/-- The waveform of a transmission, in the mode it ran in; none where `BUS_MODE` held none (log 17). DESIGN CHOICE (log 31):
the whole 16-bit frame goes over the bus whatever the status the platform answers, where 70_reset_and_hazards.md R122 allows
a failed transfer to be partial. -/
def Transmission.waveform (w : Transmission) : Option (List Pin) :=
  w.mode.map fun mode => Machine.waveform mode w.delayUs w.sent w.shiftedIn

/-- What a TRANSFER left in the device: its frame, or, after a failed one, nothing that can be known
(70_reset_and_hazards.md R122). -/
inductive Received where
  | frame (F : FrameWord)
  | unknown
deriving DecidableEq, Repr

/-- What an event brings to the device (20_memory.md R47). -/
def Event.received : Event → Option Received
  | .transfer d st => some (if statusFailed st then .unknown else .frame (d.tx.1 ++ d.tx.2))
  | _ => none

/-- What the device has received, in the order of the TRANSFER events (20_memory.md R47): no TRANSFER event, no
frame. -/
def deviceReceived (trace : List Event) : List Received := trace.filterMap Event.received

/-- The least time of a frame in seconds, `16 / BUS_SPEED` plus the delay (70_reset_and_hazards.md R123,
42_transmit.md R88, R89); none at a speed of 0. Timing only: nothing in the machine uses it. -/
def minFrameSeconds (speed : BitVec 32) (delay : BitVec 16) : Option ℚ :=
  if speed = 0 then none else some (16 / (speed.toNat : ℚ) + (delay.toNat : ℚ) / 1000000)

/-- The least time of a transmission, at the confirmed speed it ran at (42_transmit.md R89). -/
def Transmission.minSeconds (w : Transmission) : Option ℚ := w.speedHz.bind fun speed => minFrameSeconds speed w.delayUs

end Sys2Proof.Machine
end

