-- ==== Sys2Proof/Safety.lean ====
section
/-! DEFINITION. What a safe run is: which states end a run well, the order the spec gives the transport requests, and
the invariant of the states a host drives the block through. -/

namespace Sys2Proof.Machine

/-- "A state with a non-empty `FAULT` is never a successful final state", and the same of `REFUSED` (10_state.md R34,
R35). -/
def State.successful (s : State) : Prop := s.fault = [] ∧ s.refused = []

/-- What a host and the power supply present: no single FRAME16 or TREQ word (log 2). -/
def Input.fromHost : Input → Bool
  | .word (.host _) => true
  | .word _ => false
  | .reset => true
  | .secondHost => true

/-! ### The order of the transport requests -/

/-- How far the bus protocol of the trace has come. -/
inductive BusPhase where
  /-- No handle. -/
  | closed
  /-- OPEN answered `Ok`. -/
  | opened
  | modeWritten
  | modeSet
  | bpwWritten
  | bpwSet
  | speedWritten
  /-- CONFIGURE is complete and no frame has gone out. -/
  | configured
  /-- The initial frame has gone out. -/
  | live
  /-- A request of INIT failed after OPEN: only RELEASE may follow. -/
  | failed
deriving DecidableEq, Repr

/-- The phase after an event, none where the spec has no such event in that phase: OPEN first, the six requests of
CONFIGURE in their order, the initial TRANSFER, then TRANSFERs, and one RELEASE at the end or after a failure
(43_driver.md R92 to R94, 41_transport_lifecycle.md R77, R78). -/
def BusPhase.next (p : BusPhase) (e : Event) : Option BusPhase :=
  match p with
  | .closed => match e with
    | .openBus _ answer => some (if answer.isSome then .opened else .closed)
    | _ => none
  | .opened => match e with
    | .wrMode _ ok => some (if ok then .modeWritten else .failed)
    | _ => none
  | .modeWritten => match e with
    | .rdMode answer => some (if answer.isSome then .modeSet else .failed)
    | _ => none
  | .modeSet => match e with
    | .wrBpw _ ok => some (if ok then .bpwWritten else .failed)
    | _ => none
  | .bpwWritten => match e with
    | .rdBpw answer => some (if answer.isSome then .bpwSet else .failed)
    | _ => none
  | .bpwSet => match e with
    | .wrSpeed _ ok => some (if ok then .speedWritten else .failed)
    | _ => none
  | .speedWritten => match e with
    | .rdSpeed answer => some (if answer.isSome then .configured else .failed)
    | _ => none
  | .configured => match e with
    | .transfer _ st => some (if statusFailed st then .failed else .live)
    | _ => none
  | .live => match e with
    | .transfer _ _ => some .live
    | .release => some .closed
    | _ => none
  | .failed => match e with
    | .release => some .closed
    | _ => none

/-- The phase after a list of events. -/
def BusPhase.after : BusPhase → List Event → Option BusPhase
  | p, [] => some p
  | p, e :: es => (p.next e).bind fun q => q.after es

/-- The phase a lifecycle state stands for between two host commands. -/
def Lifecycle.busPhase : Lifecycle → BusPhase
  | .uninit => .closed
  | .initializing => .configured
  | .ready => .live
  | .closed => .closed

/-- What the spec says of the arguments of single events: a written speed is at most 10,000,000
(41_transport_lifecycle.md R75), a transfer has two bytes of 8-bit words (42_transmit.md R80, R86), and the receive buffer it names is the block's, of `RX_LEN` bytes (20_memory.md R37). -/
def Event.lawful (rxLen : Nat) : Event → Prop
  | .wrSpeed v _ => v.toNat ≤ Config.maxSpeedHz
  | .transfer d _ => d.len = Config.frameBytes ∧ d.bitsPerWord = some 8 ∧ d.rxLen = rxLen
  | _ => True

/-! ### What the requests of a command look like from outside -/

/-- The TRANSFER event of a frame in a state: its two bytes, length 2, the confirmed speed and word size, the delay
(42_transmit.md R80, R79). -/
def State.transferEvent (s : State) (F : FrameWord) (st : Status) : Event :=
  .transfer
    { tx := (F.extractLsb' 8 8, F.extractLsb' 0 8), rxLen := s.rxLen, len := 2, speedHz := s.busSpeed,
      delayUs := s.cfgDelay, bitsPerWord := s.busBpw } st

/-- `TX` holds the two bytes of a frame and nothing more (20_memory.md R38). -/
def State.txHolds (s : State) (F : FrameWord) : Prop :=
  ∀ off, memRead .tx off s =
    if off = 0 then some (F.extractLsb' 8 8) else if off = 1 then some (F.extractLsb' 0 8) else none

/-- Every byte of `RX` is the free value that the n-th draw's transfer left there (20_memory.md R39). -/
def State.rxFree (s : State) (n : Nat) : Prop :=
  ∀ off, memRead .rx off s = if off < s.rxLen then some (Config.rxByte n off) else none

/-- `t` is `s` after one answered TRANSFER of `F`: one event, one transmission in the confirmed mode, one draw, the bytes of
`TX` and `RX`, and nothing else (42_transmit.md R80, R85). -/
def State.TransferredTo (s : State) (F : FrameWord) (t : State) : Prop :=
  t = { s with
        tx := t.tx, rx := t.rx, trace := s.trace ++ [s.transferEvent F (s.answer 0).word],
        wire := s.wire ++ [s.transmission F], drawn := s.drawn + 1 } ∧
    t.txHolds F ∧ t.rxFree s.drawn

/-- The frame of an INIT operand's initial value (43_driver.md R92, 40_register_encoder.md R64, R67). -/
def State.initFrame (s : State) (c : InitImage) : FrameWord :=
  encodeFrame s.channelBug c.channel c.buffered c.gain c.active c.value

/-- The eight requests of INIT in their order, with the answers the platform gives them (43_driver.md R92,
60_exceptions.md R104). -/
def State.initEvents (s : State) (c : InitImage) : List Event :=
  [.openBus Config.devicePath (openAnswer (s.answer 0)),
   .wrMode c.mode (s.answer 1).accept,
   .rdMode (readAnswer 2 (s.answer 2)),
   .wrBpw c.bpw (s.answer 3).accept,
   .rdBpw (readAnswer 8 (s.answer 4)),
   .wrSpeed (clampSpeed c.speed) (s.answer 5).accept,
   .rdSpeed (readAnswer 32 (s.answer 6)),
   .transfer
    { tx := ((s.initFrame c).extractLsb' 8 8, (s.initFrame c).extractLsb' 0 8), rxLen := s.rxLen, len := 2,
      speedHz := readAnswer 32 (s.answer 6), delayUs := c.delay, bitsPerWord := readAnswer 8 (s.answer 4) }
    (s.answer 7).word]

/-- What the last of them puts on the bus: the initial frame, in the mode and at the speed just confirmed (43_driver.md R92,
41_transport_lifecycle.md R79). -/
def State.initTransmission (s : State) (c : InitImage) : Transmission where
  mode := readAnswer 2 (s.answer 2)
  speedHz := readAnswer 32 (s.answer 6)
  delayUs := c.delay
  sent := s.initFrame c
  shiftedIn := Config.rxByte (s.drawn + 7) 0 ++ Config.rxByte (s.drawn + 7) 1

/-- The error of each of those requests (60_exceptions.md R97 to R101). -/
def initErrors : List TransportError :=
  [.openFailed, .setModeFailed, .setModeFailed, .setBitsPerWordFailed, .setBitsPerWordFailed, .setSpeedFailed,
   .setSpeedFailed, .transferFailed]

/-- "All state except `TRACE`, `FAULT` and `REFUSED` returns to its reset value" (60_exceptions.md R105), `es` being
the events the failed INIT leaves in the trace, `e` its error, `n` the draws it used. The buffers, no registers of
R12, what has gone over the bus, the parameters and the carriers of input and platform draws stay (log 28). -/
def State.afterFailedInit (s : State) (es : List Event) (e : TransportError) (n : Nat) : State :=
  { State.reset with
    trace := s.trace ++ es, fault := s.fault, refused := s.refused, tx := s.tx, rx := s.rx,
    channelBug := s.channelBug, rxExtra := s.rxExtra, wire := s.wire, replies := s.replies ++ [.error e],
    inputs := s.inputs, platform := s.platform, drawn := s.drawn + n }

/-! ### The invariant -/

/-- S1 to S9 hold their reset values (10_state.md R36). -/
def State.cfgAtReset (s : State) : Prop :=
  s.cfgChannel = .a ∧ s.cfgBuffered = false ∧ s.cfgGain = .x1 ∧ s.cfgActive = true ∧ s.cfgInitValue = 0 ∧
    s.cfgMode = 0 ∧ s.cfgBpw = 8 ∧ s.cfgSpeed = 10000000 ∧ s.cfgDelay = 0

/-- The control nibble of the configuration registers (40_register_encoder.md R60 to R63, R67, 30_encoding.md R53). -/
def State.controlNibble (s : State) : BitVec 4 :=
  BitVec.ofBool (!s.channelBug && s.cfgChannel == .a) ++ BitVec.ofBool s.cfgBuffered ++ BitVec.ofBool (s.cfgGain == .x1)
    ++ BitVec.ofBool s.cfgActive

/-- The states of a block that a host drives, between two host commands. -/
structure State.Legal (s : State) : Prop where
  /-- Only what a host presents is still to come. -/
  hostDriven : ∀ i ∈ s.inputs, i.fromHost = true
  /-- "INIT never writes a larger value" (10_state.md R24). -/
  speed : s.cfgSpeed.toNat ≤ Config.maxSpeedHz
  /-- Nothing partially initialized is left (43_driver.md R92). -/
  uninit : s.lifecycle = .uninit →
    s.cfgAtReset ∧ s.busMode = none ∧ s.busBpw = none ∧ s.busSpeed = none ∧ s.handle = none ∧ s.frame = none
  /-- A refusal inside INIT, and nothing else, leaves INITIALIZING behind (43_driver.md R95). -/
  initializing : s.lifecycle = .initializing → s.refused ≠ [] ∧ s.handle.isSome
  /-- "transport open, bus parameters negotiated, initial frame transmitted" (43_driver.md R92). -/
  ready : s.lifecycle = .ready →
    s.busMode.isSome ∧ s.busBpw = some 8 ∧ s.busSpeed.isSome ∧ s.handle.isSome ∧ s.frame.isSome
  /-- The handle is released (43_driver.md R94). -/
  closed : s.lifecycle = .closed → s.handle = none
  /-- The frame kept has the control nibble of the configuration (10_state.md R31). -/
  nibble : ∀ F, s.frame = some F → F.extractLsb' 12 4 = s.controlNibble

/-- What a TRANSFER event says of its transmission: the frame, the speed and the delay. -/
def Event.onWire : Event → Option (FrameWord × Option (BitVec 32) × BitVec 16)
  | .transfer d _ => some (d.tx.1 ++ d.tx.2, d.speedHz, d.delayUs)
  | _ => none

/-- The trace follows the bus protocol and stands where the lifecycle state says, and the transmissions on the bus are those
of its TRANSFER events, each in a confirmed mode (20_memory.md R47, 41_transport_lifecycle.md R79). -/
structure State.OnProtocol (s : State) : Prop where
  phase : BusPhase.closed.after s.trace = some s.lifecycle.busPhase
  lawful : ∀ e ∈ s.trace, e.lawful s.rxLen
  wired : s.wire.map (fun w => (w.sent, w.speedHz, w.delayUs)) = s.trace.filterMap Event.onWire
  modes : ∀ w ∈ s.wire, w.mode.isSome

/-- Both buffers are in canonical form and list no offset outside the buffer. -/
def State.buffersWf (s : State) : Bool :=
  s.tx.wf && s.rx.wf && s.tx.within Config.frameBytes && s.rx.within s.rxLen

/-! ### Counting -/

/-- An OPEN that the platform answered with a handle. -/
def Event.opensHandle : Event → Bool
  | .openBus _ answer => answer.isSome
  | _ => false

/-- A RELEASE. -/
def Event.releasesHandle : Event → Bool
  | .release => true
  | _ => false

end Sys2Proof.Machine
end

