-- ==== Sys2Proof/Certificates/Slice0/Obligations.lean ====
section
/-! DEFINITION. The statements for the provers, in the order of the spec's files. -/

open Sys2Proof Sys2Proof.Machine

/-! ### State and reset (10_state.md, 70_reset_and_hazards.md) -/

/-- 10_state.md R36, R12: every element of the table S0 to S17 at its reset value. -/
def Obligations.ResetHoldsTheTableOfResetValues : Prop :=
  State.reset.lifecycle = .uninit ∧ State.reset.cfgChannel = .a ∧ State.reset.cfgBuffered = false ∧
    State.reset.cfgGain = .x1 ∧ State.reset.cfgActive = true ∧ State.reset.cfgInitValue = 0 ∧
    State.reset.cfgMode = 0 ∧ State.reset.cfgBpw = 8 ∧ State.reset.cfgSpeed = 10000000 ∧
    State.reset.cfgDelay = 0 ∧ State.reset.busMode = none ∧ State.reset.busBpw = none ∧
    State.reset.busSpeed = none ∧ State.reset.handle = none ∧ State.reset.frame = none ∧
    State.reset.trace = [] ∧ State.reset.fault = [] ∧ State.reset.refused = []

/-- 10_state.md R16, 60_exceptions.md R96: the numbers of the lifecycle states and of the result codes. -/
def Obligations.LifecycleAndResultNumbers : Prop :=
  Lifecycle.code .uninit = 0 ∧ Lifecycle.code .initializing = 1 ∧ Lifecycle.code .ready = 2 ∧
    Lifecycle.code .closed = 3 ∧ ResultCode.code .ok = 0 ∧ ResultCode.code (.error .openFailed) = 1 ∧
    ResultCode.code (.error .setModeFailed) = 2 ∧ ResultCode.code (.error .setBitsPerWordFailed) = 3 ∧
    ResultCode.code (.error .setSpeedFailed) = 4 ∧ ResultCode.code (.error .transferFailed) = 5

/-- 70_reset_and_hazards.md R114, R115: a power-on reset that finds `HANDLE = INVALID` gives the reset state; one that
finds a handle is refused and changes nothing else. That a block with a mark takes a reset, and what a reset does to
the buffers, to the parameters and to the model's own fields, is the model's choice (log 10, log 12, log 14). -/
def Obligations.ResetIsTakenOrRefusedByTheHandle : Prop :=
  ∀ (s : State) (rest : List Input), s.inputs = .reset :: rest →
    (s.handle = none →
      step s = .next { State.reset with
        channelBug := s.channelBug, rxExtra := s.rxExtra, inputs := rest, platform := s.platform, drawn := s.drawn }) ∧
    (s.handle ≠ none →
      step s = .next { s with inputs := rest, refused := s.refused ++ [.resetWhileHandleValid] })

/-- 70_reset_and_hazards.md R121: a second host is refused, and changes nothing else. That it comes as an input of the list
is the model's choice (log 22). -/
def Obligations.SecondHostIsRefused : Prop :=
  ∀ (s : State) (rest : List Input), s.inputs = .secondHost :: rest → s.fault = [] → s.refused = [] →
    step s = .next { s with inputs := rest, refused := [.secondHost] }

/-- 10_state.md R34, R35: with a mark in `FAULT` or `REFUSED` the block takes no host command. That the word presented
is dropped, and not left standing, is the model's choice (log 9). -/
def Obligations.MarkedBlockTakesNoCommand : Prop :=
  ∀ (s : State) (c : CodeWord) (rest : List Input), s.inputs = .word c :: rest → s.fault ≠ [] ∨ s.refused ≠ [] →
    step s = .next { s with inputs := rest }

/-- 10_state.md R33, R34, R35: but for a reset that is taken, no step removes an event or a mark. -/
def Obligations.TraceAndMarksOnlyGrow : Prop :=
  ∀ s t : State, step s = .next t → s.inputs.head? ≠ some .reset →
    s.trace <+: t.trace ∧ s.fault <+: t.fault ∧ s.refused <+: t.refused

/-- 10_state.md R17 to R26: in READY and CLOSED the configuration registers change by a reset only. -/
def Obligations.ConfigurationIsReadOnlyAfterInit : Prop :=
  ∀ s t : State, step s = .next t → s.inputs.head? ≠ some .reset →
    s.lifecycle = .ready ∨ s.lifecycle = .closed →
    t.cfgChannel = s.cfgChannel ∧ t.cfgBuffered = s.cfgBuffered ∧ t.cfgGain = s.cfgGain ∧
      t.cfgActive = s.cfgActive ∧ t.cfgInitValue = s.cfgInitValue ∧ t.cfgMode = s.cfgMode ∧ t.cfgBpw = s.cfgBpw ∧
      t.cfgSpeed = s.cfgSpeed ∧ t.cfgDelay = s.cfgDelay

/-- 10_state.md R31: an instruction changes `FRAME` only to the frame of a TRANSFER that succeeded and that is the last
event, or to none with a failed INIT. -/
def Obligations.FrameChangesOnlyBySuccessfulTransfer : Prop :=
  ∀ (i : Instr) (s t : State), s.buffersWf = true → exec i s = .next t → t.frame ≠ s.frame →
    (∃ d st, t.trace.getLast? = some (.transfer d st) ∧ statusFailed st = false ∧
      t.frame = some (d.tx.1 ++ d.tx.2)) ∨
    t.frame = none ∧ t.lifecycle = .uninit ∧ ∃ e, t.replies = s.replies ++ [.error e]

/-! ### Buffers (20_memory.md) -/

/-- 20_memory.md R37, 00_scope.md R8: from every state whose buffers are canonical and list no offset outside, a step leads
to such a state; and in every state a step leaves the length of `RX`, the parameter `RX_LEN`, as it is. That a power-on
reset does so too is the model's choice (log 10, log 12). -/
def Obligations.StepKeepsBuffersCanonical : Prop :=
  ∀ s t : State, step s = .next t → (s.buffersWf = true → t.buffersWf = true) ∧ t.rxLen = s.rxLen

/-- 20_memory.md R39: no rule reads `RX`. Whatever it holds, an instruction has the same effect on all else. -/
def Obligations.ReceiveBufferIsNeverRead : Prop :=
  ∀ (i : Instr) (s t : State) (m : Memory), exec i s = .next t →
    ∃ m', exec i { s with rx := m } = .next { t with rx := m' }

/-- 10_state.md R33: no rule of the block reads `TRACE`. Whatever it holds, an instruction appends the same events and
has the same effect on all else. -/
def Obligations.TraceIsNeverRead : Prop :=
  ∀ (i : Instr) (s t : State) (es : List Event), exec i s = .next t →
    ∃ new, t.trace = s.trace ++ new ∧ exec i { s with trace := es } = .next { t with trace := es ++ new }

/-- 10_state.md R30, R32: of the handle only the test against `INVALID` is architectural. Another number of a valid
handle changes nothing but the handle's number. -/
def Obligations.HandleNumberIsNeverUsed : Prop :=
  ∀ (i : Instr) (s t : State) (h h' : Handle), s.handle = some h → exec i s = .next t →
    ∃ k, exec i { s with handle := some h' } = .next { t with handle := k } ∧ k.isSome = t.handle.isSome

/-! ### Encodings (30_encoding.md) -/

/-- 30_encoding.md R49 to R55: the decoder gives back every instruction that is encoded, with every operand. -/
def Obligations.DecodeInvertsEncode : Prop :=
  ∀ i : Instr, decodeTableWord (encode i).tableBits (encode i).toNat = some i

/-- 30_encoding.md R49 to R52: no two host command words spell the same command. -/
def Obligations.HostWordSpellsOneCommand : Prop :=
  ∀ (w : HostWord) (i : Instr), decodeHost w = some i → encode i = .host w

/-- 30_encoding.md R49: a host command word spells no command exactly when a reserved bit, or an operand bit its
command does not use, is set. -/
def Obligations.WordRefusedExactlyWhenUnusedBitsSet : Prop :=
  ∀ w : HostWord, decodeHost w = none ↔
    w &&& 0x3FFF00000000000000000000 ≠ 0 ∨
    w.extractLsb' 94 2 = 0 ∧ w &&& 0xFFFFFFFFFFFFFFFFFFFF ≠ 0 ∨
    w.extractLsb' 94 2 = 1 ∧ w &&& 0xC00000 ≠ 0 ∨
    w.extractLsb' 94 2 = 2 ∧ w &&& 0xFFFFFFFFFFFFFFFF0000 ≠ 0 ∨
    w.extractLsb' 94 2 = 3 ∧ w &&& 0xFFFFFFFFFFFFFFFFFFFF ≠ 0

/-- 30_encoding.md R51, R54, R55, 95_test_vectors.md P2, P4, E2: words written out from the encodings decode to what
they stand for. -/
def Obligations.WrittenOutWordsDecode : Prop :=
  decodeTableWord 96 0x400000000098968008080000 = some (.init InitImage.defaults) ∧
    decodeTableWord 96 0x4000000501312D0008380000 =
      some (.init { InitImage.defaults with mode := 3, speed := 20000000, delay := 5 }) ∧
    decodeTableWord 96 0x800000000000000000002710 = some (.setv 10000) ∧
    decodeTableWord 96 0xC00000000000000000000000 = some .close ∧
    decodeTableWord 16 0x5FFF =
      some (.dacWrite { channel := .b, buffered := true, gain := .x2, active := true, value := 4095 }) ∧
    decodeTableWord 8 0x7 = some .rdSpeed ∧ decodeTableWord 8 0xA = none

/-- 30_encoding.md R56: every one of the 65,536 frame patterns is produced by some configuration and value. -/
def Obligations.EveryFramePatternIsProduced : Prop :=
  ∀ F : FrameWord, ∃ ch buffered g active value, encodeFrame false ch buffered g active value = F

/-- 30_encoding.md R54: the fields read back from a frame, and the 12 payload bits of an encoded value in range. -/
def Obligations.FrameFieldsReadBack : Prop :=
  (∀ F : FrameWord, decodeFrame F =
    { channel := if F.getLsbD 15 then .a else .b, buffered := F.getLsbD 14,
      gain := if F.getLsbD 13 then .x1 else .x2, active := F.getLsbD 12,
      value := (F.extractLsb' 8 8 &&& 0x0F).setWidth 4 ++ F.extractLsb' 0 8 }) ∧
  ∀ bug ch buffered g active (value : BitVec 16), value.toNat ≤ 4095 →
    (decodeFrame (encodeFrame bug ch buffered g active value)).value.toNat = value.toNat

/-! ### Register encoder (40_register_encoder.md) -/

/-- 40_register_encoder.md R59: the clamp is the minimum with 4095, and fills `F[11:0]`. -/
def Obligations.ValueClampSaturates : Prop :=
  ∀ value : BitVec 16, (clampValue value).toNat = min value.toNat 4095 ∧
    ∀ bug ch buffered g active,
      (encodeFrame bug ch buffered g active value).extractLsb' 0 12 = clampValue value

/-- 40_register_encoder.md R60 to R64, 30_encoding.md R53: the frame's four control bits are the configuration, the gain
bit being inverted, its other twelve the clamped value; the fields read back from it are what was encoded. -/
def Obligations.EncodedFrameHoldsConfigurationAndClampedValue : Prop :=
  ∀ ch buffered g active (value : BitVec 16), ∃ F : FrameWord, F = encodeFrame false ch buffered g active value ∧
    (F.getLsbD 15 = true ↔ ch = .a) ∧ F.getLsbD 14 = buffered ∧ (F.getLsbD 13 = true ↔ g = .x1) ∧
    F.getLsbD 12 = active ∧ (F.extractLsb' 0 12).toNat = min value.toNat 4095 ∧
    decodeFrame F =
      { channel := ch, buffered := buffered, gain := g, active := active, value := clampValue value }

/-- 40_register_encoder.md R65: the five laws of ENCODE (law 3, determinism, is a function's). -/
def Obligations.EncodeObeysItsLaws : Prop :=
  ∀ ch buffered g active (value : BitVec 16),
    (value.toNat ≤ 4095 →
      ((encodeFrame false ch buffered g active value).extractLsb' 0 12).toNat = value.toNat) ∧
    (4095 < value.toNat →
      encodeFrame false ch buffered g active value = encodeFrame false ch buffered g active 4095) ∧
    (∀ value', value' = value →
      encodeFrame false ch buffered g active value' = encodeFrame false ch buffered g active value) ∧
    (∀ ch', ch' ≠ ch → encodeFrame false ch' buffered g active value =
      encodeFrame false ch buffered g active value ^^^ 0x8000) ∧
    encodeFrame false ch (!buffered) g active value = encodeFrame false ch buffered g active value ^^^ 0x4000 ∧
    (∀ g', g' ≠ g → encodeFrame false ch buffered g' active value =
      encodeFrame false ch buffered g active value ^^^ 0x2000) ∧
    encodeFrame false ch buffered g (!active) value = encodeFrame false ch buffered g active value ^^^ 0x1000 ∧
    (∀ value', (encodeFrame false ch buffered g active value').extractLsb' 12 4 =
      (encodeFrame false ch buffered g active value).extractLsb' 12 4) ∧
    ∀ ch' buffered' g' active', (encodeFrame false ch' buffered' g' active' value).extractLsb' 0 12 =
      (encodeFrame false ch buffered g active value).extractLsb' 0 12

/-- 40_register_encoder.md R67: with `CHANNEL_BUG` bit 15 is always 0, and the frame is the corrected one of channel B;
such are then the frames that INIT, SETV and DAC_WRITE compute. -/
def Obligations.ChannelBugSelectsChannelBAlways : Prop :=
  (∀ ch buffered g active (value : BitVec 16),
    encodeFrame true ch buffered g active value = encodeFrame false .b buffered g active value ∧
      (encodeFrame true ch buffered g active value).getLsbD 15 = false) ∧
  ∀ s : State, s.channelBug = true →
    (∀ c : InitImage, s.initFrame c = encodeFrame false .b c.buffered c.gain c.active c.value) ∧
    (∀ v, s.encode v = encodeFrame false .b s.cfgBuffered s.cfgGain s.cfgActive v) ∧
    ∀ f, encodeFields s.channelBug f = frameWord { f with channel := .b }

/-! ### Transport requests (41_transport_lifecycle.md) -/

/-- 41_transport_lifecycle.md R69: the speed clamp is the minimum with 10,000,000. -/
def Obligations.SpeedClampSaturates : Prop := ∀ hz : BitVec 32, (clampSpeed hz).toNat = min hz.toNat 10000000

/-- 41_transport_lifecycle.md R70: an accepted OPEN stores the handle and adds its event. Frame: every register but
`HANDLE`, both buffers and every mark are unchanged. That it can be run alone, and while a handle is held already, is the
model's choice (log 2, log 3). -/
def Obligations.OpenAcceptedStoresTheHandle : Prop :=
  ∀ (s : State) (h : Handle), openAnswer (s.answer 0) = some h →
    exec .openBus s = .next { s with
      handle := some h, trace := s.trace ++ [.openBus Config.devicePath (some h)], drawn := s.drawn + 1 }

/-- 41_transport_lifecycle.md R71, R73, R75: an accepted WR_MODE, WR_BPW or WR_SPEED writes the requested value of its
`CFG_` register. Frame: no register, no buffer and no mark changes. That the requests can be run alone is the model's choice
(log 2, log 3). -/
def Obligations.WriteAcceptedOnlyAddsItsEvent : Prop :=
  ∀ s : State, (s.answer 0).accept = true →
    exec .wrMode s = .next { s with trace := s.trace ++ [.wrMode s.cfgMode true], drawn := s.drawn + 1 } ∧
    exec .wrBpw s = .next { s with trace := s.trace ++ [.wrBpw s.cfgBpw true], drawn := s.drawn + 1 } ∧
    exec .wrSpeed s = .next { s with trace := s.trace ++ [.wrSpeed s.cfgSpeed true], drawn := s.drawn + 1 }

/-- 41_transport_lifecycle.md R72, R74, R76, R79: a read-back stores the platform's confirmed value, of the register's
width, in its `BUS_` register and compares it with nothing. Frame: no other register, no buffer and no mark changes. That
the requests can be run alone is the model's choice (log 2, log 3). -/
def Obligations.ReadBackStoresTheConfirmedValue : Prop :=
  ∀ s : State, (s.answer 0).accept = true →
    exec .rdMode s = .next { s with
      busMode := some ((s.answer 0).word.setWidth 2),
      trace := s.trace ++ [.rdMode (some ((s.answer 0).word.setWidth 2))], drawn := s.drawn + 1 } ∧
    exec .rdBpw s = .next { s with
      busBpw := some ((s.answer 0).word.setWidth 8),
      trace := s.trace ++ [.rdBpw (some ((s.answer 0).word.setWidth 8))], drawn := s.drawn + 1 } ∧
    exec .rdSpeed s = .next { s with
      busSpeed := some (s.answer 0).word,
      trace := s.trace ++ [.rdSpeed (some (s.answer 0).word)], drawn := s.drawn + 1 }

/-- 41_transport_lifecycle.md R70 to R76, 60_exceptions.md R97 to R100, R105: a rejected request raised inside INIT
(`STATE = INITIALIZING`) releases an open handle with one RELEASE, resets the rest and returns the request's error. That
such a request can be run alone, and that `STATE` tells it is inside INIT, is the model's choice (log 2, log 4); that `TX` and
`RX` stay is its reading (log 28). -/
def Obligations.RejectedRequestInsideInitAborts : Prop :=
  ∀ s : State, s.lifecycle = .initializing → (s.answer 0).accept = false →
    let release : List Event := if s.handle.isSome then [.release] else []
    exec .openBus s =
      .next (s.afterFailedInit ([.openBus Config.devicePath none] ++ release) .openFailed 1) ∧
    exec .wrMode s = .next (s.afterFailedInit ([.wrMode s.cfgMode false] ++ release) .setModeFailed 1) ∧
    exec .rdMode s = .next (s.afterFailedInit ([.rdMode none] ++ release) .setModeFailed 1) ∧
    exec .wrBpw s = .next (s.afterFailedInit ([.wrBpw s.cfgBpw false] ++ release) .setBitsPerWordFailed 1) ∧
    exec .rdBpw s = .next (s.afterFailedInit ([.rdBpw none] ++ release) .setBitsPerWordFailed 1) ∧
    exec .wrSpeed s = .next (s.afterFailedInit ([.wrSpeed s.cfgSpeed false] ++ release) .setSpeedFailed 1) ∧
    exec .rdSpeed s = .next (s.afterFailedInit ([.rdSpeed none] ++ release) .setSpeedFailed 1)

/-- The model's choice (log 4): a rejected request run alone, outside INIT, returns its error and changes nothing but
the trace. -/
def Obligations.RejectedRequestOutsideInitOnlyReturnsItsError : Prop :=
  ∀ s : State, s.lifecycle ≠ .initializing → (s.answer 0).accept = false →
    let after (e : Event) (r : TransportError) : State :=
      { s with trace := s.trace ++ [e], replies := s.replies ++ [.error r], drawn := s.drawn + 1 }
    exec .openBus s = .next (after (.openBus Config.devicePath none) .openFailed) ∧
    exec .wrMode s = .next (after (.wrMode s.cfgMode false) .setModeFailed) ∧
    exec .rdMode s = .next (after (.rdMode none) .setModeFailed) ∧
    exec .wrBpw s = .next (after (.wrBpw s.cfgBpw false) .setBitsPerWordFailed) ∧
    exec .rdBpw s = .next (after (.rdBpw none) .setBitsPerWordFailed) ∧
    exec .wrSpeed s = .next (after (.wrSpeed s.cfgSpeed false) .setSpeedFailed) ∧
    exec .rdSpeed s = .next (after (.rdSpeed none) .setSpeedFailed)

/-- 41_transport_lifecycle.md R78: RELEASE adds one event and makes the handle `INVALID`; where it is `INVALID`
already, nothing happens. That it can be run alone is the model's choice (log 2). -/
def Obligations.ReleaseOnceThenHarmless : Prop :=
  ∀ s : State,
    (s.handle ≠ none → exec .release s = .next { s with handle := none, trace := s.trace ++ [.release] }) ∧
    (s.handle = none → exec .release s = .next s)

/-- 41_transport_lifecycle.md R77 to R79, 43_driver.md R92 to R94, 70_reset_and_hazards.md R117, R120: from a legal state
whose trace follows the bus protocol, a step leads to a state whose trace does and stands where the lifecycle state says,
and whose transmissions are those of its TRANSFER events, each in a confirmed mode. -/
def Obligations.StepKeepsTheBusProtocol : Prop :=
  ∀ s t : State, s.Legal → s.OnProtocol → s.buffersWf = true → step s = .next t → t.OnProtocol

/-- 41_transport_lifecycle.md R78 (the handle is released "exactly once"): where the trace follows the bus protocol,
the handles opened are the handles released, and one more while a handle is held. -/
def Obligations.OpensAndReleasesBalance : Prop :=
  ∀ s : State, s.Legal → s.OnProtocol →
    s.trace.countP Event.opensHandle =
      s.trace.countP Event.releasesHandle + (if s.handle.isSome then 1 else 0)

/-! ### Transmit and serialization (42_transmit.md) -/

/-- 42_transmit.md R80, R82, 40_register_encoder.md R66: a DAC_WRITE, and a TRANSFER of the bytes in `TX`, that the
platform takes write `TX`, let `RX` take any bytes, add the one event with the confirmed speed and word size, and run in the
confirmed mode. Without `CHANNEL_BUG` DAC_WRITE's frame is the word itself.
Frame: no register (`FRAME` among them) and no mark changes. That the two rows run alone, and that they leave `FRAME`, is
the model's choice (log 2), as is the order in which the bits shifted in fill `RX[0..1]` (log 31). -/
def Obligations.TransferTakenDeliversTheFrame : Prop :=
  ∀ s : State, s.buffersWf = true → s.busBpw = some 8 → 0 ≤ (s.answer 0).word.toInt →
    (∀ f, (s.channelBug = false → encodeFields s.channelBug f = frameWord f) ∧
      ∃ t, exec (.dacWrite f) s = .next t ∧ s.TransferredTo (encodeFields s.channelBug f) t) ∧
    ∃ t, exec .transfer s = .next t ∧ s.TransferredTo (s.tx.read 0 ++ s.tx.read 1) t

/-- 42_transmit.md R87, 60_exceptions.md R101, R105: a TRANSFER or DAC_WRITE with a negative status, run where no INIT
is under way, changes no more than a taken one does and returns `TransferFailed`. That it runs alone and only returns the
error is the model's choice (log 2, log 4). -/
def Obligations.TransferFailedReturnsItsError : Prop :=
  ∀ s : State, s.buffersWf = true → s.busBpw = some 8 → (s.answer 0).word.toInt < 0 →
    s.lifecycle ≠ .initializing →
    (∀ f, ∃ t, exec (.dacWrite f) s = .next { t with replies := s.replies ++ [.error .transferFailed] } ∧
      s.TransferredTo (encodeFields s.channelBug f) t) ∧
    ∃ t, exec .transfer s = .next { t with replies := s.replies ++ [.error .transferFailed] } ∧
      s.TransferredTo (s.tx.read 0 ++ s.tx.read 1) t

/-- 42_transmit.md R86: with a `BUS_BPW` other than 8, TRANSMIT writes `TX`, is refused, issues no request and returns
no result, in SETV as in a DAC_WRITE or TRANSFER run alone. That the two rows can be run alone, and are refused so outside
a host command, is the model's choice (log 2), as is that a `BUS_BPW` of none is refused as well (log 17). -/
def Obligations.OtherWordSizeIsRefusedAtTransmit : Prop :=
  ∀ s : State, s.buffersWf = true → s.busBpw ≠ some 8 →
    let refusedWith (F : FrameWord) (t : State) : Prop :=
      t = { s with tx := t.tx, refused := s.refused ++ [.bitsPerWordNot8] } ∧ t.txHolds F
    (∀ f, ∃ t, exec (.dacWrite f) s = .next t ∧ refusedWith (encodeFields s.channelBug f) t) ∧
    (∃ t, exec .transfer s = .next t ∧ refusedWith (s.tx.read 0 ++ s.tx.read 1) t) ∧
    ∀ v, s.lifecycle = .ready → ∃ t, exec (.setv v) s = .next t ∧ refusedWith (s.encode v) t

/-- 42_transmit.md R87: the sign of the status alone tells success from failure. -/
def Obligations.StatusSignDecidesTransmit : Prop :=
  ∀ (F : FrameWord) (s : State), s.busBpw = some 8 →
    ((s.answer 0).word.toInt < 0 ↔ ∃ t, transmit F s = .error .transferFailed t) ∧
    (0 ≤ (s.answer 0).word.toInt ↔ ∃ t, transmit F s = .ok t)

/-- 42_transmit.md R81: the split of the mode. -/
def Obligations.ModeSplitsIntoPolarityAndPhase : Prop :=
  (∀ m : BitVec 2, cpol m = m.getLsbD 1 ∧ cpha m = m.getLsbD 0) ∧
    (cpol 0 = false ∧ cpha 0 = false) ∧ (cpol 1 = false ∧ cpha 1 = true) ∧ (cpol 2 = true ∧ cpha 2 = false) ∧
    cpol 3 = true ∧ cpha 3 = true

/-- 42_transmit.md R82: the bit sequence of a frame. -/
def Obligations.MostSignificantBitGoesOutFirst : Prop :=
  ∀ F : FrameWord, (serialize F).length = 16 ∧ ∀ k, k < 16 → (serialize F)[k]? = some (F.getLsbD (15 - k))

/-- 42_transmit.md R82 to R85 (the spec's decisions D9 to D12, log 19, log 31): in every mode, from the waveform of a
transmission, a receiver that samples MOSI on the edges the mode gives reads the bit sequence and puts the frame together
again, and the master, sampling MISO on the same edges, the 16 bits the device shifts back, whatever the lines held
before. -/
def Obligations.ReceiverRecoversTheFrameInEveryMode : Prop :=
  ∀ (w : Transmission) (mode : BitVec 2) (before : Bool), w.mode = some mode →
    ∃ pins, w.waveform = some pins ∧
      sampled .mosi (cpol mode) (cpha mode) false (cpol mode) before pins = serialize w.sent ∧
      deserialize (sampled .mosi (cpol mode) (cpha mode) false (cpol mode) before pins) = w.sent ∧
      sampled .miso (cpol mode) (cpha mode) false (cpol mode) before pins = serialize w.shiftedIn ∧
      deserialize (sampled .miso (cpol mode) (cpha mode) false (cpol mode) before pins) = w.shiftedIn

/-- 42_transmit.md R83, R84 (the spec's decisions D11, D12, log 19): one TRANSFER is one chip-select frame with 16
clock pulses, released after the delay. That it is so whatever the status is the model's choice (log 31). -/
def Obligations.OneChipSelectFrameOfSixteenPulses : Prop :=
  ∀ (mode : BitVec 2) (delay : BitVec 16) (F back : FrameWord), ∃ pulses : List Pin,
    waveform mode delay F back = [.select] ++ pulses ++ [.wait delay, .deselect] ∧
    (∀ p ∈ pulses, p ≠ .select ∧ p ≠ .deselect) ∧
    pulses.countP (· == .clock (!cpol mode)) = 16 ∧ pulses.countP (· == .clock (cpol mode)) = 16

/-! ### Host commands (43_driver.md, 60_exceptions.md) -/

/-- A step runs the command it is presented: an unmarked block whose next input is a word that decodes to `i` runs `i`
in the state without that input. That the words come in a list of inputs is the model's choice (log 1). -/
def Obligations.StepRunsTheDecodedInstruction : Prop :=
  ∀ (s : State) (c : CodeWord) (i : Instr) (rest : List Input), s.inputs = .word c :: rest → s.fault = [] →
    s.refused = [] → decode c = some i → step s = exec i { s with inputs := rest }

/-- 30_encoding.md R49, 43_driver.md R90, 60_exceptions.md R104: in every lifecycle state, a host command word that
spells no command is refused before anything else, and changes nothing else. -/
def Obligations.WordWithReservedBitsIsRefused : Prop :=
  ∀ (s : State) (w : HostWord) (rest : List Input), s.inputs = .word (.host w) :: rest → s.fault = [] →
    s.refused = [] → hostWordWellFormed w = false →
    step s = .next { s with inputs := rest, refused := [.reservedOperandBits] }

/-- 30_encoding.md R56 says that these request codes are never issued. That a step which is presented one ends in the
refusal `requestCodeNeverIssued` is the model's choice (log 25). -/
def Obligations.RequestCodeNeverIssuedIsRefused : Prop :=
  ∀ (s : State) (w : RequestCode) (rest : List Input), s.inputs = .word (.request w) :: rest → s.fault = [] →
    s.refused = [] → w.toNat = 0 ∨ 10 ≤ w.toNat → step s = .refused .requestCodeNeverIssued

/-- 43_driver.md R91: the word 0 is NOP; it returns `Ok` in every lifecycle state and changes no element of the state.
The field `replies` carries the returned code (log 15). -/
def Obligations.NopReturnsOkAndChangesNothing : Prop :=
  decodeHost 0 = some .nop ∧ ∀ s : State, exec .nop s = .next { s with replies := s.replies ++ [.ok] }

/-- 43_driver.md R90, 60_exceptions.md R102: the five usage faults. Each appends its reason to `FAULT` and changes
nothing else: no request, no result. -/
def Obligations.UsageFaultsOnlyMarkFault : Prop :=
  ∀ (s : State) (c : InitImage) (v : BitVec 16),
    (s.lifecycle = .uninit →
      exec (.setv v) s = .next { s with fault := s.fault ++ [.setvBeforeReady] } ∧
      exec .close s = .next { s with fault := s.fault ++ [.closeWithNoDriver] }) ∧
    (s.lifecycle = .ready → exec (.init c) s = .next { s with fault := s.fault ++ [.initWhileReady] }) ∧
    (s.lifecycle = .closed →
      exec (.init c) s = .next { s with fault := s.fault ++ [.initAfterClosed] } ∧
      exec (.setv v) s = .next { s with fault := s.fault ++ [.setvAfterClosed] })

/-- 43_driver.md R90 calls the row of INITIALIZING unreachable and gives it no effect. That INIT, SETV and CLOSE stop there
with the fault `commandWhileInitializing` is the model's choice (log 16). -/
def Obligations.CommandsStopInInitializing : Prop :=
  ∀ (s : State) (c : InitImage) (v : BitVec 16), s.lifecycle = .initializing →
    exec (.init c) s = .fault .commandWhileInitializing ∧ exec (.setv v) s = .fault .commandWhileInitializing ∧
      exec .close s = .fault .commandWhileInitializing

/-- 43_driver.md R92: an INIT in UNINIT whose eight requests the platform takes, confirming a word size of 8, ends in
READY with `Ok`: the configuration latched with its speed clamped, the confirmed values and the handle stored, the
eight events in their order, the initial frame in `TX`, in `FRAME` and, in the confirmed mode, on the bus. Frame: nothing
else changes. -/
def Obligations.InitBringsTheBlockUp : Prop :=
  ∀ (c : InitImage) (s : State), s.buffersWf = true → s.lifecycle = .uninit →
    (∀ k, k < 7 → (s.answer k).accept = true) → (s.answer 4).word.setWidth 8 = 8#8 →
    0 ≤ (s.answer 7).word.toInt →
    ∃ t, exec (.init c) s = .next t ∧
      t = { s with
            lifecycle := .ready, cfgChannel := c.channel, cfgBuffered := c.buffered, cfgGain := c.gain,
            cfgActive := c.active, cfgInitValue := c.value, cfgMode := c.mode, cfgBpw := c.bpw,
            cfgSpeed := clampSpeed c.speed, cfgDelay := c.delay,
            busMode := some ((s.answer 2).word.setWidth 2), busBpw := some 8,
            busSpeed := some (s.answer 6).word, handle := some (s.answer 0).handle, frame := some (s.initFrame c),
            trace := s.trace ++ s.initEvents c, tx := t.tx, rx := t.rx,
            wire := s.wire ++ [s.initTransmission c], replies := s.replies ++ [.ok],
            drawn := s.drawn + 8 } ∧
      t.txHolds (s.initFrame c) ∧ t.rxFree (s.drawn + 7)

/-- 43_driver.md R92, 60_exceptions.md R97 to R100, R104, R105: an INIT in UNINIT stops at the first request of OPEN and
CONFIGURE that the platform rejects, releases the handle if it was opened, puts the registers back to their reset
values and returns that request's error. That `TX` and `RX` stay is the model's reading (log 28). -/
def Obligations.InitStopsAtTheFirstRejectedRequest : Prop :=
  ∀ (c : InitImage) (s : State) (k : Nat), s.lifecycle = .uninit → s.handle = none → k < 7 →
    (∀ j, j < k → (s.answer j).accept = true) → (s.answer k).accept = false →
    ∃ e, initErrors[k]? = some e ∧
      exec (.init c) s = .next (s.afterFailedInit
        ((s.initEvents c).take (k + 1) ++ (if k = 0 then [] else [.release])) e (k + 1))

/-- 43_driver.md R92, 60_exceptions.md R101: an INIT in UNINIT whose initial frame the platform fails to send releases
the handle, puts the registers back and returns `TransferFailed`. That `TX` keeps the frame and `RX` the bytes it took is the model's reading
(log 28). -/
def Obligations.InitAbortsWhenTheInitialFrameFails : Prop :=
  ∀ (c : InitImage) (s : State), s.buffersWf = true → s.lifecycle = .uninit → s.handle = none →
    (∀ k, k < 7 → (s.answer k).accept = true) → (s.answer 4).word.setWidth 8 = 8#8 →
    (s.answer 7).word.toInt < 0 →
    ∃ t, exec (.init c) s = .next t ∧
      t = { s.afterFailedInit (s.initEvents c ++ [.release]) .transferFailed 8 with
        tx := t.tx, rx := t.rx, wire := s.wire ++ [s.initTransmission c] } ∧
      t.txHolds (s.initFrame c) ∧ t.rxFree (s.drawn + 7)

/-- 43_driver.md R92, R95, 42_transmit.md R86: an INIT in UNINIT that ends CONFIGURE with a confirmed word size other
than 8 is refused at the initial frame: no TRANSFER, no RELEASE, no result, `STATE` left at INITIALIZING. -/
def Obligations.InitIsRefusedAtAnotherWordSize : Prop :=
  ∀ (c : InitImage) (s : State), s.buffersWf = true → s.lifecycle = .uninit →
    (∀ k, k < 7 → (s.answer k).accept = true) → (s.answer 4).word.setWidth 8 ≠ 8#8 →
    ∃ t, exec (.init c) s = .next t ∧
      t = { s with
            lifecycle := .initializing, cfgChannel := c.channel, cfgBuffered := c.buffered, cfgGain := c.gain,
            cfgActive := c.active, cfgInitValue := c.value, cfgMode := c.mode, cfgBpw := c.bpw,
            cfgSpeed := clampSpeed c.speed, cfgDelay := c.delay,
            busMode := some ((s.answer 2).word.setWidth 2), busBpw := some ((s.answer 4).word.setWidth 8),
            busSpeed := some (s.answer 6).word, handle := some (s.answer 0).handle,
            trace := s.trace ++ (s.initEvents c).take 7, refused := s.refused ++ [.bitsPerWordNot8],
            tx := t.tx, drawn := s.drawn + 7 } ∧
      t.txHolds (s.initFrame c)

/-- 43_driver.md R93, 42_transmit.md R80: a SETV in READY that the platform takes transmits the frame of the clamped value with the
configuration unchanged, stores it in `FRAME` and returns `Ok`. Frame: nothing else changes. -/
def Obligations.SetvTransmitsAndStoresTheFrame : Prop :=
  ∀ (v : BitVec 16) (s : State), s.buffersWf = true → s.lifecycle = .ready → s.busBpw = some 8 →
    0 ≤ (s.answer 0).word.toInt →
    ∃ t, s.TransferredTo (encodeFrame s.channelBug s.cfgChannel s.cfgBuffered s.cfgGain s.cfgActive v) t ∧
      exec (.setv v) s = .next { t with
        frame := some (encodeFrame s.channelBug s.cfgChannel s.cfgBuffered s.cfgGain s.cfgActive v),
        replies := s.replies ++ [.ok] }

/-- 43_driver.md R93, 60_exceptions.md R105: a SETV in READY whose transfer fails returns `TransferFailed`; `FRAME`,
`HANDLE` and `STATE` are unchanged and nothing is released. -/
def Obligations.SetvFailureKeepsTheDriverReady : Prop :=
  ∀ (v : BitVec 16) (s : State), s.buffersWf = true → s.lifecycle = .ready → s.busBpw = some 8 →
    (s.answer 0).word.toInt < 0 →
    ∃ t, s.TransferredTo (encodeFrame s.channelBug s.cfgChannel s.cfgBuffered s.cfgGain s.cfgActive v) t ∧
      exec (.setv v) s = .next { t with replies := s.replies ++ [.error .transferFailed] }

/-- 43_driver.md R93, 60_exceptions.md R103: SETV of a value above 4095 is SETV of 4095. -/
def Obligations.SetvOutOfRangeIsSetvOfFullScale : Prop :=
  ∀ (v : BitVec 16) (s : State), 4095 < v.toNat → exec (.setv v) s = exec (.setv 4095) s

/-- 43_driver.md R94: CLOSE in READY releases the handle and goes to CLOSED; in CLOSED it only returns `Ok`. Frame:
`FRAME`, `BUS_*` and `CFG_*` keep their values. -/
def Obligations.CloseReleasesOnceAndIsRepeatable : Prop :=
  ∀ s : State,
    (s.lifecycle = .ready → s.handle ≠ none → exec .close s = .next { s with
      lifecycle := .closed, handle := none, trace := s.trace ++ [.release], replies := s.replies ++ [.ok] }) ∧
    (s.lifecycle = .closed → exec .close s = .next { s with replies := s.replies ++ [.ok] })

/-- 60_exceptions.md R96, R102, R104: a host command returns exactly one result and adds no mark, or returns none and
adds exactly one mark. -/
def Obligations.HostCommandEndsInOneResultOrOneMark : Prop :=
  ∀ (i : Instr) (w : HostWord) (s t : State), decodeHost w = some i → exec i s = .next t →
    (∃ r, t.replies = s.replies ++ [r]) ∧ t.fault = s.fault ∧ t.refused = s.refused ∨
    t.replies = s.replies ∧
      ((∃ f, t.fault = s.fault ++ [f]) ∧ t.refused = s.refused ∨
        t.fault = s.fault ∧ ∃ r, t.refused = s.refused ++ [r])

/-- 20_memory.md R47, 70_reset_and_hazards.md R122: SETV in READY brings the device its frame, or, when the transfer
fails, something that is not known. -/
def Obligations.SetvDeliversItsFrameOrTheUnknown : Prop :=
  ∀ (v : BitVec 16) (s t : State), s.buffersWf = true → s.lifecycle = .ready → s.busBpw = some 8 →
    exec (.setv v) s = .next t →
    deviceReceived t.trace = deviceReceived s.trace ++
      [if (s.answer 0).word.toInt < 0 then .unknown else .frame (s.encode v)]

/-! ### The machine as a whole -/

/-- The reset state is legal, its empty trace follows the bus protocol, and its buffers are canonical and of the
lengths that 20_memory.md R37 and 00_scope.md R8 give, `RX_LEN` at its default 2. -/
def Obligations.ResetSatisfiesTheInvariants : Prop :=
  State.reset.Legal ∧ State.reset.OnProtocol ∧ State.reset.buffersWf = true ∧
    State.reset.bufferLen .tx = 2 ∧ State.reset.bufferLen .rx = 2

/-- 43_driver.md R92 to R95, 10_state.md R24, R31, R36: from every legal state a step leads to a legal state. -/
def Obligations.StepKeepsLegal : Prop := ∀ s t : State, s.Legal → step s = .next t → t.Legal

/-- 00_scope.md R8, 40_register_encoder.md R67: `CHANNEL_BUG` is a parameter: false by default, and no step changes it. -/
def Obligations.ChannelBugIsNeverWritten : Prop :=
  State.reset.channelBug = false ∧ ∀ s t : State, step s = .next t → t.channelBug = s.channelBug

/-- No step from a legal state stops: what the spec says of faults and refusals is in `FAULT` and `REFUSED`. -/
def Obligations.LegalStepsNeverStop : Prop := ∀ s : State, s.Legal → ∃ t, step s = .next t

/-- 43_driver.md R95: the transitions of `STATE` from a legal state: INIT's from UNINIT, CLOSE's from READY, the
reset's from CLOSED, and no other. -/
def Obligations.LifecycleTransitionsAreExactlyThese : Prop :=
  ∀ s t : State, s.Legal → step s = .next t →
    t.lifecycle = s.lifecycle ∨
    (∃ w c, s.inputs.head? = some (.word (.host w)) ∧ decodeHost w = some (.init c) ∧ s.lifecycle = .uninit ∧
      (t.lifecycle = .ready ∧ t.replies = s.replies ++ [.ok] ∨
        t.lifecycle = .initializing ∧ t.refused = s.refused ++ [.bitsPerWordNot8])) ∨
    (∃ w, s.inputs.head? = some (.word (.host w)) ∧ decodeHost w = some .close ∧ s.lifecycle = .ready ∧
      t.lifecycle = .closed) ∨
    s.inputs.head? = some .reset ∧ s.lifecycle = .closed ∧ t.lifecycle = .uninit
end

