-- ==== Sys2Proof/Laws/State.lean ====
section
/-! SUPPORT. One lemma for each field of State after each named update, and the small lemmas of the definitions that
look a state up. -/

namespace Sys2Proof.Machine

variable (s : State)

/-! ### `State.record` -/

@[simp] theorem State.record_lifecycle (e : Event) : (s.record e).lifecycle = s.lifecycle := rfl
@[simp] theorem State.record_cfgChannel (e : Event) : (s.record e).cfgChannel = s.cfgChannel := rfl
@[simp] theorem State.record_cfgBuffered (e : Event) : (s.record e).cfgBuffered = s.cfgBuffered := rfl
@[simp] theorem State.record_cfgGain (e : Event) : (s.record e).cfgGain = s.cfgGain := rfl
@[simp] theorem State.record_cfgActive (e : Event) : (s.record e).cfgActive = s.cfgActive := rfl
@[simp] theorem State.record_cfgInitValue (e : Event) : (s.record e).cfgInitValue = s.cfgInitValue := rfl
@[simp] theorem State.record_cfgMode (e : Event) : (s.record e).cfgMode = s.cfgMode := rfl
@[simp] theorem State.record_cfgBpw (e : Event) : (s.record e).cfgBpw = s.cfgBpw := rfl
@[simp] theorem State.record_cfgSpeed (e : Event) : (s.record e).cfgSpeed = s.cfgSpeed := rfl
@[simp] theorem State.record_cfgDelay (e : Event) : (s.record e).cfgDelay = s.cfgDelay := rfl
@[simp] theorem State.record_busMode (e : Event) : (s.record e).busMode = s.busMode := rfl
@[simp] theorem State.record_busBpw (e : Event) : (s.record e).busBpw = s.busBpw := rfl
@[simp] theorem State.record_busSpeed (e : Event) : (s.record e).busSpeed = s.busSpeed := rfl
@[simp] theorem State.record_handle (e : Event) : (s.record e).handle = s.handle := rfl
@[simp] theorem State.record_frame (e : Event) : (s.record e).frame = s.frame := rfl
@[simp] theorem State.record_trace (e : Event) : (s.record e).trace = s.trace ++ [e] := rfl
@[simp] theorem State.record_fault (e : Event) : (s.record e).fault = s.fault := rfl
@[simp] theorem State.record_refused (e : Event) : (s.record e).refused = s.refused := rfl
@[simp] theorem State.record_tx (e : Event) : (s.record e).tx = s.tx := rfl
@[simp] theorem State.record_rx (e : Event) : (s.record e).rx = s.rx := rfl
@[simp] theorem State.record_replies (e : Event) : (s.record e).replies = s.replies := rfl
@[simp] theorem State.record_inputs (e : Event) : (s.record e).inputs = s.inputs := rfl
@[simp] theorem State.record_platform (e : Event) : (s.record e).platform = s.platform := rfl
@[simp] theorem State.record_drawn (e : Event) : (s.record e).drawn = s.drawn := rfl
@[simp] theorem State.record_channelBug (e : Event) : (s.record e).channelBug = s.channelBug := rfl
@[simp] theorem State.record_rxExtra (e : Event) : (s.record e).rxExtra = s.rxExtra := rfl
@[simp] theorem State.record_wire (e : Event) : (s.record e).wire = s.wire := rfl

/-! ### `State.issue` -/

@[simp] theorem State.issue_lifecycle (e : Event) : (s.issue e).lifecycle = s.lifecycle := rfl
@[simp] theorem State.issue_cfgChannel (e : Event) : (s.issue e).cfgChannel = s.cfgChannel := rfl
@[simp] theorem State.issue_cfgBuffered (e : Event) : (s.issue e).cfgBuffered = s.cfgBuffered := rfl
@[simp] theorem State.issue_cfgGain (e : Event) : (s.issue e).cfgGain = s.cfgGain := rfl
@[simp] theorem State.issue_cfgActive (e : Event) : (s.issue e).cfgActive = s.cfgActive := rfl
@[simp] theorem State.issue_cfgInitValue (e : Event) : (s.issue e).cfgInitValue = s.cfgInitValue := rfl
@[simp] theorem State.issue_cfgMode (e : Event) : (s.issue e).cfgMode = s.cfgMode := rfl
@[simp] theorem State.issue_cfgBpw (e : Event) : (s.issue e).cfgBpw = s.cfgBpw := rfl
@[simp] theorem State.issue_cfgSpeed (e : Event) : (s.issue e).cfgSpeed = s.cfgSpeed := rfl
@[simp] theorem State.issue_cfgDelay (e : Event) : (s.issue e).cfgDelay = s.cfgDelay := rfl
@[simp] theorem State.issue_busMode (e : Event) : (s.issue e).busMode = s.busMode := rfl
@[simp] theorem State.issue_busBpw (e : Event) : (s.issue e).busBpw = s.busBpw := rfl
@[simp] theorem State.issue_busSpeed (e : Event) : (s.issue e).busSpeed = s.busSpeed := rfl
@[simp] theorem State.issue_handle (e : Event) : (s.issue e).handle = s.handle := rfl
@[simp] theorem State.issue_frame (e : Event) : (s.issue e).frame = s.frame := rfl
@[simp] theorem State.issue_trace (e : Event) : (s.issue e).trace = s.trace ++ [e] := rfl
@[simp] theorem State.issue_fault (e : Event) : (s.issue e).fault = s.fault := rfl
@[simp] theorem State.issue_refused (e : Event) : (s.issue e).refused = s.refused := rfl
@[simp] theorem State.issue_tx (e : Event) : (s.issue e).tx = s.tx := rfl
@[simp] theorem State.issue_rx (e : Event) : (s.issue e).rx = s.rx := rfl
@[simp] theorem State.issue_replies (e : Event) : (s.issue e).replies = s.replies := rfl
@[simp] theorem State.issue_inputs (e : Event) : (s.issue e).inputs = s.inputs := rfl
@[simp] theorem State.issue_platform (e : Event) : (s.issue e).platform = s.platform := rfl
@[simp] theorem State.issue_drawn (e : Event) : (s.issue e).drawn = s.drawn + 1 := rfl
@[simp] theorem State.issue_channelBug (e : Event) : (s.issue e).channelBug = s.channelBug := rfl
@[simp] theorem State.issue_rxExtra (e : Event) : (s.issue e).rxExtra = s.rxExtra := rfl
@[simp] theorem State.issue_wire (e : Event) : (s.issue e).wire = s.wire := rfl

/-! ### `State.reply` -/

@[simp] theorem State.reply_lifecycle (r : ResultCode) : (s.reply r).lifecycle = s.lifecycle := rfl
@[simp] theorem State.reply_cfgChannel (r : ResultCode) : (s.reply r).cfgChannel = s.cfgChannel := rfl
@[simp] theorem State.reply_cfgBuffered (r : ResultCode) : (s.reply r).cfgBuffered = s.cfgBuffered := rfl
@[simp] theorem State.reply_cfgGain (r : ResultCode) : (s.reply r).cfgGain = s.cfgGain := rfl
@[simp] theorem State.reply_cfgActive (r : ResultCode) : (s.reply r).cfgActive = s.cfgActive := rfl
@[simp] theorem State.reply_cfgInitValue (r : ResultCode) : (s.reply r).cfgInitValue = s.cfgInitValue := rfl
@[simp] theorem State.reply_cfgMode (r : ResultCode) : (s.reply r).cfgMode = s.cfgMode := rfl
@[simp] theorem State.reply_cfgBpw (r : ResultCode) : (s.reply r).cfgBpw = s.cfgBpw := rfl
@[simp] theorem State.reply_cfgSpeed (r : ResultCode) : (s.reply r).cfgSpeed = s.cfgSpeed := rfl
@[simp] theorem State.reply_cfgDelay (r : ResultCode) : (s.reply r).cfgDelay = s.cfgDelay := rfl
@[simp] theorem State.reply_busMode (r : ResultCode) : (s.reply r).busMode = s.busMode := rfl
@[simp] theorem State.reply_busBpw (r : ResultCode) : (s.reply r).busBpw = s.busBpw := rfl
@[simp] theorem State.reply_busSpeed (r : ResultCode) : (s.reply r).busSpeed = s.busSpeed := rfl
@[simp] theorem State.reply_handle (r : ResultCode) : (s.reply r).handle = s.handle := rfl
@[simp] theorem State.reply_frame (r : ResultCode) : (s.reply r).frame = s.frame := rfl
@[simp] theorem State.reply_trace (r : ResultCode) : (s.reply r).trace = s.trace := rfl
@[simp] theorem State.reply_fault (r : ResultCode) : (s.reply r).fault = s.fault := rfl
@[simp] theorem State.reply_refused (r : ResultCode) : (s.reply r).refused = s.refused := rfl
@[simp] theorem State.reply_tx (r : ResultCode) : (s.reply r).tx = s.tx := rfl
@[simp] theorem State.reply_rx (r : ResultCode) : (s.reply r).rx = s.rx := rfl
@[simp] theorem State.reply_replies (r : ResultCode) : (s.reply r).replies = s.replies ++ [r] := rfl
@[simp] theorem State.reply_inputs (r : ResultCode) : (s.reply r).inputs = s.inputs := rfl
@[simp] theorem State.reply_platform (r : ResultCode) : (s.reply r).platform = s.platform := rfl
@[simp] theorem State.reply_drawn (r : ResultCode) : (s.reply r).drawn = s.drawn := rfl
@[simp] theorem State.reply_channelBug (r : ResultCode) : (s.reply r).channelBug = s.channelBug := rfl
@[simp] theorem State.reply_rxExtra (r : ResultCode) : (s.reply r).rxExtra = s.rxExtra := rfl
@[simp] theorem State.reply_wire (r : ResultCode) : (s.reply r).wire = s.wire := rfl

/-! ### `State.usageFault` -/

@[simp] theorem State.usageFault_lifecycle (f : UsageFault) : (s.usageFault f).lifecycle = s.lifecycle := rfl
@[simp] theorem State.usageFault_cfgChannel (f : UsageFault) : (s.usageFault f).cfgChannel = s.cfgChannel := rfl
@[simp] theorem State.usageFault_cfgBuffered (f : UsageFault) : (s.usageFault f).cfgBuffered = s.cfgBuffered := rfl
@[simp] theorem State.usageFault_cfgGain (f : UsageFault) : (s.usageFault f).cfgGain = s.cfgGain := rfl
@[simp] theorem State.usageFault_cfgActive (f : UsageFault) : (s.usageFault f).cfgActive = s.cfgActive := rfl
@[simp] theorem State.usageFault_cfgInitValue (f : UsageFault) :
    (s.usageFault f).cfgInitValue = s.cfgInitValue := rfl
@[simp] theorem State.usageFault_cfgMode (f : UsageFault) : (s.usageFault f).cfgMode = s.cfgMode := rfl
@[simp] theorem State.usageFault_cfgBpw (f : UsageFault) : (s.usageFault f).cfgBpw = s.cfgBpw := rfl
@[simp] theorem State.usageFault_cfgSpeed (f : UsageFault) : (s.usageFault f).cfgSpeed = s.cfgSpeed := rfl
@[simp] theorem State.usageFault_cfgDelay (f : UsageFault) : (s.usageFault f).cfgDelay = s.cfgDelay := rfl
@[simp] theorem State.usageFault_busMode (f : UsageFault) : (s.usageFault f).busMode = s.busMode := rfl
@[simp] theorem State.usageFault_busBpw (f : UsageFault) : (s.usageFault f).busBpw = s.busBpw := rfl
@[simp] theorem State.usageFault_busSpeed (f : UsageFault) : (s.usageFault f).busSpeed = s.busSpeed := rfl
@[simp] theorem State.usageFault_handle (f : UsageFault) : (s.usageFault f).handle = s.handle := rfl
@[simp] theorem State.usageFault_frame (f : UsageFault) : (s.usageFault f).frame = s.frame := rfl
@[simp] theorem State.usageFault_trace (f : UsageFault) : (s.usageFault f).trace = s.trace := rfl
@[simp] theorem State.usageFault_fault (f : UsageFault) : (s.usageFault f).fault = s.fault ++ [f] := rfl
@[simp] theorem State.usageFault_refused (f : UsageFault) : (s.usageFault f).refused = s.refused := rfl
@[simp] theorem State.usageFault_tx (f : UsageFault) : (s.usageFault f).tx = s.tx := rfl
@[simp] theorem State.usageFault_rx (f : UsageFault) : (s.usageFault f).rx = s.rx := rfl
@[simp] theorem State.usageFault_replies (f : UsageFault) : (s.usageFault f).replies = s.replies := rfl
@[simp] theorem State.usageFault_inputs (f : UsageFault) : (s.usageFault f).inputs = s.inputs := rfl
@[simp] theorem State.usageFault_platform (f : UsageFault) : (s.usageFault f).platform = s.platform := rfl
@[simp] theorem State.usageFault_drawn (f : UsageFault) : (s.usageFault f).drawn = s.drawn := rfl
@[simp] theorem State.usageFault_channelBug (f : UsageFault) : (s.usageFault f).channelBug = s.channelBug := rfl
@[simp] theorem State.usageFault_rxExtra (f : UsageFault) : (s.usageFault f).rxExtra = s.rxExtra := rfl
@[simp] theorem State.usageFault_wire (f : UsageFault) : (s.usageFault f).wire = s.wire := rfl

/-! ### `State.refuse` -/

@[simp] theorem State.refuse_lifecycle (r : RefusalReason) : (s.refuse r).lifecycle = s.lifecycle := rfl
@[simp] theorem State.refuse_cfgChannel (r : RefusalReason) : (s.refuse r).cfgChannel = s.cfgChannel := rfl
@[simp] theorem State.refuse_cfgBuffered (r : RefusalReason) : (s.refuse r).cfgBuffered = s.cfgBuffered := rfl
@[simp] theorem State.refuse_cfgGain (r : RefusalReason) : (s.refuse r).cfgGain = s.cfgGain := rfl
@[simp] theorem State.refuse_cfgActive (r : RefusalReason) : (s.refuse r).cfgActive = s.cfgActive := rfl
@[simp] theorem State.refuse_cfgInitValue (r : RefusalReason) : (s.refuse r).cfgInitValue = s.cfgInitValue := rfl
@[simp] theorem State.refuse_cfgMode (r : RefusalReason) : (s.refuse r).cfgMode = s.cfgMode := rfl
@[simp] theorem State.refuse_cfgBpw (r : RefusalReason) : (s.refuse r).cfgBpw = s.cfgBpw := rfl
@[simp] theorem State.refuse_cfgSpeed (r : RefusalReason) : (s.refuse r).cfgSpeed = s.cfgSpeed := rfl
@[simp] theorem State.refuse_cfgDelay (r : RefusalReason) : (s.refuse r).cfgDelay = s.cfgDelay := rfl
@[simp] theorem State.refuse_busMode (r : RefusalReason) : (s.refuse r).busMode = s.busMode := rfl
@[simp] theorem State.refuse_busBpw (r : RefusalReason) : (s.refuse r).busBpw = s.busBpw := rfl
@[simp] theorem State.refuse_busSpeed (r : RefusalReason) : (s.refuse r).busSpeed = s.busSpeed := rfl
@[simp] theorem State.refuse_handle (r : RefusalReason) : (s.refuse r).handle = s.handle := rfl
@[simp] theorem State.refuse_frame (r : RefusalReason) : (s.refuse r).frame = s.frame := rfl
@[simp] theorem State.refuse_trace (r : RefusalReason) : (s.refuse r).trace = s.trace := rfl
@[simp] theorem State.refuse_fault (r : RefusalReason) : (s.refuse r).fault = s.fault := rfl
@[simp] theorem State.refuse_refused (r : RefusalReason) : (s.refuse r).refused = s.refused ++ [r] := rfl
@[simp] theorem State.refuse_tx (r : RefusalReason) : (s.refuse r).tx = s.tx := rfl
@[simp] theorem State.refuse_rx (r : RefusalReason) : (s.refuse r).rx = s.rx := rfl
@[simp] theorem State.refuse_replies (r : RefusalReason) : (s.refuse r).replies = s.replies := rfl
@[simp] theorem State.refuse_inputs (r : RefusalReason) : (s.refuse r).inputs = s.inputs := rfl
@[simp] theorem State.refuse_platform (r : RefusalReason) : (s.refuse r).platform = s.platform := rfl
@[simp] theorem State.refuse_drawn (r : RefusalReason) : (s.refuse r).drawn = s.drawn := rfl
@[simp] theorem State.refuse_channelBug (r : RefusalReason) : (s.refuse r).channelBug = s.channelBug := rfl
@[simp] theorem State.refuse_rxExtra (r : RefusalReason) : (s.refuse r).rxExtra = s.rxExtra := rfl
@[simp] theorem State.refuse_wire (r : RefusalReason) : (s.refuse r).wire = s.wire := rfl

/-! ### `State.rollback` -/

@[simp] theorem State.rollback_lifecycle : (s.rollback).lifecycle = .uninit := rfl
@[simp] theorem State.rollback_cfgChannel : (s.rollback).cfgChannel = .a := rfl
@[simp] theorem State.rollback_cfgBuffered : (s.rollback).cfgBuffered = false := rfl
@[simp] theorem State.rollback_cfgGain : (s.rollback).cfgGain = .x1 := rfl
@[simp] theorem State.rollback_cfgActive : (s.rollback).cfgActive = true := rfl
@[simp] theorem State.rollback_cfgInitValue : (s.rollback).cfgInitValue = 0 := rfl
@[simp] theorem State.rollback_cfgMode : (s.rollback).cfgMode = 0 := rfl
@[simp] theorem State.rollback_cfgBpw : (s.rollback).cfgBpw = 8 := rfl
@[simp] theorem State.rollback_cfgSpeed : (s.rollback).cfgSpeed = 10000000 := rfl
@[simp] theorem State.rollback_cfgDelay : (s.rollback).cfgDelay = 0 := rfl
@[simp] theorem State.rollback_busMode : (s.rollback).busMode = none := rfl
@[simp] theorem State.rollback_busBpw : (s.rollback).busBpw = none := rfl
@[simp] theorem State.rollback_busSpeed : (s.rollback).busSpeed = none := rfl
@[simp] theorem State.rollback_handle : (s.rollback).handle = s.handle := rfl
@[simp] theorem State.rollback_frame : (s.rollback).frame = none := rfl
@[simp] theorem State.rollback_trace : (s.rollback).trace = s.trace := rfl
@[simp] theorem State.rollback_fault : (s.rollback).fault = s.fault := rfl
@[simp] theorem State.rollback_refused : (s.rollback).refused = s.refused := rfl
@[simp] theorem State.rollback_tx : (s.rollback).tx = s.tx := rfl
@[simp] theorem State.rollback_rx : (s.rollback).rx = s.rx := rfl
@[simp] theorem State.rollback_replies : (s.rollback).replies = s.replies := rfl
@[simp] theorem State.rollback_inputs : (s.rollback).inputs = s.inputs := rfl
@[simp] theorem State.rollback_platform : (s.rollback).platform = s.platform := rfl
@[simp] theorem State.rollback_drawn : (s.rollback).drawn = s.drawn := rfl
@[simp] theorem State.rollback_channelBug : (s.rollback).channelBug = s.channelBug := rfl
@[simp] theorem State.rollback_rxExtra : (s.rollback).rxExtra = s.rxExtra := rfl
@[simp] theorem State.rollback_wire : (s.rollback).wire = s.wire := rfl

/-! ### `State.putFrame` -/

@[simp] theorem State.putFrame_lifecycle (F : FrameWord) : (s.putFrame F).lifecycle = s.lifecycle := rfl
@[simp] theorem State.putFrame_cfgChannel (F : FrameWord) : (s.putFrame F).cfgChannel = s.cfgChannel := rfl
@[simp] theorem State.putFrame_cfgBuffered (F : FrameWord) : (s.putFrame F).cfgBuffered = s.cfgBuffered := rfl
@[simp] theorem State.putFrame_cfgGain (F : FrameWord) : (s.putFrame F).cfgGain = s.cfgGain := rfl
@[simp] theorem State.putFrame_cfgActive (F : FrameWord) : (s.putFrame F).cfgActive = s.cfgActive := rfl
@[simp] theorem State.putFrame_cfgInitValue (F : FrameWord) : (s.putFrame F).cfgInitValue = s.cfgInitValue := rfl
@[simp] theorem State.putFrame_cfgMode (F : FrameWord) : (s.putFrame F).cfgMode = s.cfgMode := rfl
@[simp] theorem State.putFrame_cfgBpw (F : FrameWord) : (s.putFrame F).cfgBpw = s.cfgBpw := rfl
@[simp] theorem State.putFrame_cfgSpeed (F : FrameWord) : (s.putFrame F).cfgSpeed = s.cfgSpeed := rfl
@[simp] theorem State.putFrame_cfgDelay (F : FrameWord) : (s.putFrame F).cfgDelay = s.cfgDelay := rfl
@[simp] theorem State.putFrame_busMode (F : FrameWord) : (s.putFrame F).busMode = s.busMode := rfl
@[simp] theorem State.putFrame_busBpw (F : FrameWord) : (s.putFrame F).busBpw = s.busBpw := rfl
@[simp] theorem State.putFrame_busSpeed (F : FrameWord) : (s.putFrame F).busSpeed = s.busSpeed := rfl
@[simp] theorem State.putFrame_handle (F : FrameWord) : (s.putFrame F).handle = s.handle := rfl
@[simp] theorem State.putFrame_frame (F : FrameWord) : (s.putFrame F).frame = s.frame := rfl
@[simp] theorem State.putFrame_trace (F : FrameWord) : (s.putFrame F).trace = s.trace := rfl
@[simp] theorem State.putFrame_fault (F : FrameWord) : (s.putFrame F).fault = s.fault := rfl
@[simp] theorem State.putFrame_refused (F : FrameWord) : (s.putFrame F).refused = s.refused := rfl
@[simp] theorem State.putFrame_tx (F : FrameWord) : (s.putFrame F).tx = s.tx.writeFrame F := rfl
@[simp] theorem State.putFrame_rx (F : FrameWord) : (s.putFrame F).rx = s.rx := rfl
@[simp] theorem State.putFrame_replies (F : FrameWord) : (s.putFrame F).replies = s.replies := rfl
@[simp] theorem State.putFrame_inputs (F : FrameWord) : (s.putFrame F).inputs = s.inputs := rfl
@[simp] theorem State.putFrame_platform (F : FrameWord) : (s.putFrame F).platform = s.platform := rfl
@[simp] theorem State.putFrame_drawn (F : FrameWord) : (s.putFrame F).drawn = s.drawn := rfl
@[simp] theorem State.putFrame_channelBug (F : FrameWord) : (s.putFrame F).channelBug = s.channelBug := rfl
@[simp] theorem State.putFrame_rxExtra (F : FrameWord) : (s.putFrame F).rxExtra = s.rxExtra := rfl
@[simp] theorem State.putFrame_wire (F : FrameWord) : (s.putFrame F).wire = s.wire := rfl

/-! ### `State.sent` -/

@[simp] theorem State.sent_lifecycle (F : FrameWord) : (s.sent F).lifecycle = s.lifecycle := rfl
@[simp] theorem State.sent_cfgChannel (F : FrameWord) : (s.sent F).cfgChannel = s.cfgChannel := rfl
@[simp] theorem State.sent_cfgBuffered (F : FrameWord) : (s.sent F).cfgBuffered = s.cfgBuffered := rfl
@[simp] theorem State.sent_cfgGain (F : FrameWord) : (s.sent F).cfgGain = s.cfgGain := rfl
@[simp] theorem State.sent_cfgActive (F : FrameWord) : (s.sent F).cfgActive = s.cfgActive := rfl
@[simp] theorem State.sent_cfgInitValue (F : FrameWord) : (s.sent F).cfgInitValue = s.cfgInitValue := rfl
@[simp] theorem State.sent_cfgMode (F : FrameWord) : (s.sent F).cfgMode = s.cfgMode := rfl
@[simp] theorem State.sent_cfgBpw (F : FrameWord) : (s.sent F).cfgBpw = s.cfgBpw := rfl
@[simp] theorem State.sent_cfgSpeed (F : FrameWord) : (s.sent F).cfgSpeed = s.cfgSpeed := rfl
@[simp] theorem State.sent_cfgDelay (F : FrameWord) : (s.sent F).cfgDelay = s.cfgDelay := rfl
@[simp] theorem State.sent_busMode (F : FrameWord) : (s.sent F).busMode = s.busMode := rfl
@[simp] theorem State.sent_busBpw (F : FrameWord) : (s.sent F).busBpw = s.busBpw := rfl
@[simp] theorem State.sent_busSpeed (F : FrameWord) : (s.sent F).busSpeed = s.busSpeed := rfl
@[simp] theorem State.sent_handle (F : FrameWord) : (s.sent F).handle = s.handle := rfl
@[simp] theorem State.sent_frame (F : FrameWord) : (s.sent F).frame = s.frame := rfl
@[simp] theorem State.sent_trace (F : FrameWord) :
    (s.sent F).trace = s.trace ++ [.transfer (s.putFrame F).descriptor (s.answer 0).word] := rfl
@[simp] theorem State.sent_fault (F : FrameWord) : (s.sent F).fault = s.fault := rfl
@[simp] theorem State.sent_refused (F : FrameWord) : (s.sent F).refused = s.refused := rfl
@[simp] theorem State.sent_tx (F : FrameWord) : (s.sent F).tx = s.tx.writeFrame F := rfl
@[simp] theorem State.sent_rx (F : FrameWord) : (s.sent F).rx = s.rx.fillAny s.rxLen s.drawn := rfl
@[simp] theorem State.sent_replies (F : FrameWord) : (s.sent F).replies = s.replies := rfl
@[simp] theorem State.sent_inputs (F : FrameWord) : (s.sent F).inputs = s.inputs := rfl
@[simp] theorem State.sent_platform (F : FrameWord) : (s.sent F).platform = s.platform := rfl
@[simp] theorem State.sent_drawn (F : FrameWord) : (s.sent F).drawn = s.drawn + 1 := rfl
@[simp] theorem State.sent_channelBug (F : FrameWord) : (s.sent F).channelBug = s.channelBug := rfl
@[simp] theorem State.sent_rxExtra (F : FrameWord) : (s.sent F).rxExtra = s.rxExtra := rfl
@[simp] theorem State.sent_wire (F : FrameWord) : (s.sent F).wire = s.wire ++ [s.transmission F] := rfl

/-! ### `State.latch` -/

@[simp] theorem State.latch_lifecycle (c : InitImage) : (s.latch c).lifecycle = .initializing := rfl
@[simp] theorem State.latch_cfgChannel (c : InitImage) : (s.latch c).cfgChannel = c.channel := rfl
@[simp] theorem State.latch_cfgBuffered (c : InitImage) : (s.latch c).cfgBuffered = c.buffered := rfl
@[simp] theorem State.latch_cfgGain (c : InitImage) : (s.latch c).cfgGain = c.gain := rfl
@[simp] theorem State.latch_cfgActive (c : InitImage) : (s.latch c).cfgActive = c.active := rfl
@[simp] theorem State.latch_cfgInitValue (c : InitImage) : (s.latch c).cfgInitValue = c.value := rfl
@[simp] theorem State.latch_cfgMode (c : InitImage) : (s.latch c).cfgMode = c.mode := rfl
@[simp] theorem State.latch_cfgBpw (c : InitImage) : (s.latch c).cfgBpw = c.bpw := rfl
@[simp] theorem State.latch_cfgSpeed (c : InitImage) : (s.latch c).cfgSpeed = clampSpeed c.speed := rfl
@[simp] theorem State.latch_cfgDelay (c : InitImage) : (s.latch c).cfgDelay = c.delay := rfl
@[simp] theorem State.latch_busMode (c : InitImage) : (s.latch c).busMode = s.busMode := rfl
@[simp] theorem State.latch_busBpw (c : InitImage) : (s.latch c).busBpw = s.busBpw := rfl
@[simp] theorem State.latch_busSpeed (c : InitImage) : (s.latch c).busSpeed = s.busSpeed := rfl
@[simp] theorem State.latch_handle (c : InitImage) : (s.latch c).handle = s.handle := rfl
@[simp] theorem State.latch_frame (c : InitImage) : (s.latch c).frame = s.frame := rfl
@[simp] theorem State.latch_trace (c : InitImage) : (s.latch c).trace = s.trace := rfl
@[simp] theorem State.latch_fault (c : InitImage) : (s.latch c).fault = s.fault := rfl
@[simp] theorem State.latch_refused (c : InitImage) : (s.latch c).refused = s.refused := rfl
@[simp] theorem State.latch_tx (c : InitImage) : (s.latch c).tx = s.tx := rfl
@[simp] theorem State.latch_rx (c : InitImage) : (s.latch c).rx = s.rx := rfl
@[simp] theorem State.latch_replies (c : InitImage) : (s.latch c).replies = s.replies := rfl
@[simp] theorem State.latch_inputs (c : InitImage) : (s.latch c).inputs = s.inputs := rfl
@[simp] theorem State.latch_platform (c : InitImage) : (s.latch c).platform = s.platform := rfl
@[simp] theorem State.latch_drawn (c : InitImage) : (s.latch c).drawn = s.drawn := rfl
@[simp] theorem State.latch_channelBug (c : InitImage) : (s.latch c).channelBug = s.channelBug := rfl
@[simp] theorem State.latch_rxExtra (c : InitImage) : (s.latch c).rxExtra = s.rxExtra := rfl
@[simp] theorem State.latch_wire (c : InitImage) : (s.latch c).wire = s.wire := rfl

/-! ### `State.closeHandle` and `State.abort` -/

theorem State.closeHandle_of_none (h : s.handle = none) : s.closeHandle = s := by
  unfold State.closeHandle
  rw [h]

theorem State.closeHandle_of_some (k : Handle) (h : s.handle = some k) :
    s.closeHandle = { s with trace := s.trace ++ [.release], handle := none } := by
  unfold State.closeHandle
  rw [h]
  rfl

@[simp] theorem State.closeHandle_handle : s.closeHandle.handle = none := by
  unfold State.closeHandle
  split
  · assumption
  · rfl

theorem State.closeHandle_trace :
    s.closeHandle.trace = s.trace ++ (if s.handle.isSome then [.release] else []) := by
  unfold State.closeHandle
  split <;> simp [*]

@[simp] theorem State.closeHandle_lifecycle : s.closeHandle.lifecycle = s.lifecycle := by
  unfold State.closeHandle
  split <;> rfl

@[simp] theorem State.closeHandle_cfgChannel : s.closeHandle.cfgChannel = s.cfgChannel := by
  unfold State.closeHandle
  split <;> rfl

@[simp] theorem State.closeHandle_cfgBuffered : s.closeHandle.cfgBuffered = s.cfgBuffered := by
  unfold State.closeHandle
  split <;> rfl

@[simp] theorem State.closeHandle_cfgGain : s.closeHandle.cfgGain = s.cfgGain := by
  unfold State.closeHandle
  split <;> rfl

@[simp] theorem State.closeHandle_cfgActive : s.closeHandle.cfgActive = s.cfgActive := by
  unfold State.closeHandle
  split <;> rfl

@[simp] theorem State.closeHandle_cfgInitValue : s.closeHandle.cfgInitValue = s.cfgInitValue := by
  unfold State.closeHandle
  split <;> rfl

@[simp] theorem State.closeHandle_cfgMode : s.closeHandle.cfgMode = s.cfgMode := by
  unfold State.closeHandle
  split <;> rfl

@[simp] theorem State.closeHandle_cfgBpw : s.closeHandle.cfgBpw = s.cfgBpw := by
  unfold State.closeHandle
  split <;> rfl

@[simp] theorem State.closeHandle_cfgSpeed : s.closeHandle.cfgSpeed = s.cfgSpeed := by
  unfold State.closeHandle
  split <;> rfl

@[simp] theorem State.closeHandle_cfgDelay : s.closeHandle.cfgDelay = s.cfgDelay := by
  unfold State.closeHandle
  split <;> rfl

@[simp] theorem State.closeHandle_busMode : s.closeHandle.busMode = s.busMode := by
  unfold State.closeHandle
  split <;> rfl

@[simp] theorem State.closeHandle_busBpw : s.closeHandle.busBpw = s.busBpw := by
  unfold State.closeHandle
  split <;> rfl

@[simp] theorem State.closeHandle_busSpeed : s.closeHandle.busSpeed = s.busSpeed := by
  unfold State.closeHandle
  split <;> rfl

@[simp] theorem State.closeHandle_frame : s.closeHandle.frame = s.frame := by
  unfold State.closeHandle
  split <;> rfl

@[simp] theorem State.closeHandle_fault : s.closeHandle.fault = s.fault := by
  unfold State.closeHandle
  split <;> rfl

@[simp] theorem State.closeHandle_refused : s.closeHandle.refused = s.refused := by
  unfold State.closeHandle
  split <;> rfl

@[simp] theorem State.closeHandle_tx : s.closeHandle.tx = s.tx := by
  unfold State.closeHandle
  split <;> rfl

@[simp] theorem State.closeHandle_rx : s.closeHandle.rx = s.rx := by
  unfold State.closeHandle
  split <;> rfl

@[simp] theorem State.closeHandle_replies : s.closeHandle.replies = s.replies := by
  unfold State.closeHandle
  split <;> rfl

@[simp] theorem State.closeHandle_inputs : s.closeHandle.inputs = s.inputs := by
  unfold State.closeHandle
  split <;> rfl

@[simp] theorem State.closeHandle_platform : s.closeHandle.platform = s.platform := by
  unfold State.closeHandle
  split <;> rfl

@[simp] theorem State.closeHandle_drawn : s.closeHandle.drawn = s.drawn := by
  unfold State.closeHandle
  split <;> rfl

@[simp] theorem State.closeHandle_channelBug : s.closeHandle.channelBug = s.channelBug := by
  unfold State.closeHandle
  split <;> rfl

@[simp] theorem State.closeHandle_rxExtra : s.closeHandle.rxExtra = s.rxExtra := by
  unfold State.closeHandle
  split <;> rfl

@[simp] theorem State.closeHandle_wire : s.closeHandle.wire = s.wire := by
  unfold State.closeHandle
  split <;> rfl

@[simp] theorem State.abort_lifecycle (e : TransportError) : (s.abort e).lifecycle = .uninit := by simp [State.abort]
@[simp] theorem State.abort_cfgChannel (e : TransportError) : (s.abort e).cfgChannel = .a := by simp [State.abort]
@[simp] theorem State.abort_cfgBuffered (e : TransportError) : (s.abort e).cfgBuffered = false := by simp [State.abort]
@[simp] theorem State.abort_cfgGain (e : TransportError) : (s.abort e).cfgGain = .x1 := by simp [State.abort]
@[simp] theorem State.abort_cfgActive (e : TransportError) : (s.abort e).cfgActive = true := by simp [State.abort]
@[simp] theorem State.abort_cfgInitValue (e : TransportError) : (s.abort e).cfgInitValue = 0 := by simp [State.abort]
@[simp] theorem State.abort_cfgMode (e : TransportError) : (s.abort e).cfgMode = 0 := by simp [State.abort]
@[simp] theorem State.abort_cfgBpw (e : TransportError) : (s.abort e).cfgBpw = 8 := by simp [State.abort]
@[simp] theorem State.abort_cfgSpeed (e : TransportError) : (s.abort e).cfgSpeed = 10000000 := by simp [State.abort]
@[simp] theorem State.abort_cfgDelay (e : TransportError) : (s.abort e).cfgDelay = 0 := by simp [State.abort]
@[simp] theorem State.abort_busMode (e : TransportError) : (s.abort e).busMode = none := by simp [State.abort]
@[simp] theorem State.abort_busBpw (e : TransportError) : (s.abort e).busBpw = none := by simp [State.abort]
@[simp] theorem State.abort_busSpeed (e : TransportError) : (s.abort e).busSpeed = none := by simp [State.abort]
@[simp] theorem State.abort_handle (e : TransportError) : (s.abort e).handle = none := by simp [State.abort]
@[simp] theorem State.abort_frame (e : TransportError) : (s.abort e).frame = none := by simp [State.abort]
@[simp] theorem State.abort_trace (e : TransportError) : (s.abort e).trace = s.closeHandle.trace := by simp [State.abort]
@[simp] theorem State.abort_fault (e : TransportError) : (s.abort e).fault = s.fault := by simp [State.abort]
@[simp] theorem State.abort_refused (e : TransportError) : (s.abort e).refused = s.refused := by simp [State.abort]
@[simp] theorem State.abort_tx (e : TransportError) : (s.abort e).tx = s.tx := by simp [State.abort]
@[simp] theorem State.abort_rx (e : TransportError) : (s.abort e).rx = s.rx := by simp [State.abort]
@[simp] theorem State.abort_replies (e : TransportError) : (s.abort e).replies = s.replies ++ [.error e] := by simp [State.abort]
@[simp] theorem State.abort_inputs (e : TransportError) : (s.abort e).inputs = s.inputs := by simp [State.abort]
@[simp] theorem State.abort_platform (e : TransportError) : (s.abort e).platform = s.platform := by simp [State.abort]
@[simp] theorem State.abort_drawn (e : TransportError) : (s.abort e).drawn = s.drawn := by simp [State.abort]
@[simp] theorem State.abort_channelBug (e : TransportError) : (s.abort e).channelBug = s.channelBug := by simp [State.abort]
@[simp] theorem State.abort_rxExtra (e : TransportError) : (s.abort e).rxExtra = s.rxExtra := by simp [State.abort]
@[simp] theorem State.abort_wire (e : TransportError) : (s.abort e).wire = s.wire := by simp [State.abort]

/-! ### The parameter `RX_LEN` (00_scope.md R8) -/

/-- `RX_LEN` is at least 2 in every state. -/
theorem State.two_le_rxLen : 2 ≤ s.rxLen := Nat.le_add_left 2 s.rxExtra

/-- Every length the spec allows is that of some state. -/
theorem State.rxLen_surjective (n : Nat) (hn : 2 ≤ n) : State.rxLen { s with rxExtra := n - 2 } = n :=
  Nat.sub_add_cancel hn

theorem State.rxLen_congr {s t : State} (h : t.rxExtra = s.rxExtra) : t.rxLen = s.rxLen := by
  rw [State.rxLen, State.rxLen, h]

@[simp] theorem State.record_rxLen (e : Event) : (s.record e).rxLen = s.rxLen := rfl
@[simp] theorem State.issue_rxLen (e : Event) : (s.issue e).rxLen = s.rxLen := rfl
@[simp] theorem State.reply_rxLen (r : ResultCode) : (s.reply r).rxLen = s.rxLen := rfl
@[simp] theorem State.usageFault_rxLen (f : UsageFault) : (s.usageFault f).rxLen = s.rxLen := rfl
@[simp] theorem State.refuse_rxLen (r : RefusalReason) : (s.refuse r).rxLen = s.rxLen := rfl
@[simp] theorem State.rollback_rxLen : (s.rollback).rxLen = s.rxLen := rfl
@[simp] theorem State.putFrame_rxLen (F : FrameWord) : (s.putFrame F).rxLen = s.rxLen := rfl
@[simp] theorem State.sent_rxLen (F : FrameWord) : (s.sent F).rxLen = s.rxLen := rfl
@[simp] theorem State.latch_rxLen (c : InitImage) : (s.latch c).rxLen = s.rxLen := rfl
@[simp] theorem State.closeHandle_rxLen : s.closeHandle.rxLen = s.rxLen := State.rxLen_congr (by simp)
@[simp] theorem State.abort_rxLen (e : TransportError) : (s.abort e).rxLen = s.rxLen := State.rxLen_congr (by simp)

@[simp] theorem State.bufferLen_tx : s.bufferLen .tx = 2 := rfl
@[simp] theorem State.bufferLen_rx : s.bufferLen .rx = s.rxLen := rfl

/-- The default of the spec. -/
@[simp] theorem State.reset_rxLen : State.reset.rxLen = Config.rxLenDefault := rfl

/-! ### Looking a state up -/

@[simp] theorem State.answer_of_issue (e : Event) (k : Nat) : (s.issue e).answer k = s.answer (k + 1) := by
  simp [State.answer, Nat.add_comm, Nat.add_left_comm]

theorem State.answer_congr {s t : State} (hp : t.platform = s.platform) (hd : t.drawn = s.drawn) (k : Nat) :
    t.answer k = s.answer k := by
  simp [State.answer, hp, hd]

theorem State.answer_shift {s t : State} (n : Nat) (hp : t.platform = s.platform) (hd : t.drawn = s.drawn + n)
    (k : Nat) : t.answer k = s.answer (n + k) := by
  simp [State.answer, hp, hd, Nat.add_assoc]

theorem State.marked_eq_false : s.marked = false ↔ s.fault = [] ∧ s.refused = [] := by
  simp [State.marked]

theorem State.marked_iff_not_successful : s.marked = true ↔ ¬ s.successful := by
  simp [State.marked, State.successful]
  tauto

theorem State.raise_of_initializing (e : TransportError) (h : s.lifecycle = .initializing) :
    s.raise e = s.abort e := by
  simp [State.raise, h]

theorem State.raise_of_not_initializing (e : TransportError) (h : s.lifecycle ≠ .initializing) :
    s.raise e = s.reply (.error e) := by
  simp [State.raise, h]

end Sys2Proof.Machine
end

