-- ==== Sys2Proof/Laws/Memory.lean ====
section
/-! SUPPORT. The byte buffers: reading back what was written, and the canonical form that every operation keeps. -/

namespace Sys2Proof.Machine

/-! ### Reading after writing -/

theorem Memory.read_of_lt_all (m : Memory) (off : Nat) (h : ∀ p ∈ m, off < p.1) :
    m.read off = Memory.unlisted := by
  induction m with
  | nil => rfl
  | cons p m ih =>
    have hp : p.1 ≠ off := fun e => by simpa [e] using h p (by simp)
    simpa [Memory.read, hp] using ih fun q hq => h q (by simp [hq])

theorem Memory.wf_cons (p : Host.Cell) (m : Memory) :
    Memory.wf (p :: m) = true ↔ (∀ q ∈ m, p.1 < q.1) ∧ p.2 ≠ Memory.unlisted ∧ Memory.wf m = true := by
  simp only [Memory.wf, List.pairwise_cons, List.all_cons, Bool.and_eq_true, decide_eq_true_eq, bne_iff_ne]
  tauto

/-- Reading a written buffer: the written byte at its offset, the old bytes elsewhere. -/
theorem Memory.read_write (m : Memory) (hm : m.wf = true) (off : Nat) (v : Byte) (a : Nat) :
    (m.write off v).read a = if a = off then v else m.read a := by
  induction m with
  | nil =>
    by_cases hv : v = Memory.unlisted <;> by_cases ha : a = off <;>
      simp [Memory.write, Memory.read, hv, ha, eq_comm]
    exact fun h => absurd h.symm (by simpa [eq_comm] using ha)
  | cons p m ih =>
    obtain ⟨b, x⟩ := p
    obtain ⟨hlt, -, hwf⟩ := (Memory.wf_cons _ _).1 hm
    have ih := ih hwf
    rcases lt_trichotomy off b with h | h | h
    · by_cases ha : a = off
      · subst ha
        by_cases hv : v = Memory.unlisted
        · have hnot : b ≠ a := by omega
          have := Memory.read_of_lt_all m a fun q hq => lt_trans h (hlt q hq)
          simp [Memory.write, Memory.read, h, hv, hnot, this]
        · simp [Memory.write, Memory.read, h, hv]
      · by_cases hv : v = Memory.unlisted <;> simp [Memory.write, Memory.read, h, hv, ha, Ne.symm ha]
    · subst h
      by_cases ha : a = off
      · subst ha
        by_cases hv : v = Memory.unlisted
        · simp [Memory.write, hv, Memory.read_of_lt_all m a fun q hq => hlt q hq]
        · simp [Memory.write, Memory.read, hv]
      · by_cases hv : v = Memory.unlisted <;> simp [Memory.write, Memory.read, hv, ha, Ne.symm ha]
    · have h1 : ¬ off < b := by omega
      have h2 : ¬ off = b := by omega
      by_cases hb : b = a
      · subst hb
        simp [Memory.write, Memory.read, h1, h2, Ne.symm h2]
      · simp [Memory.write, Memory.read, h1, h2, hb, ih]

/-! ### The canonical form -/

theorem Memory.mem_write (m : Memory) (off : Nat) (v : Byte) (p : Host.Cell) (h : p ∈ m.write off v) :
    p = (off, v) ∧ v ≠ Memory.unlisted ∨ p ∈ m := by
  induction m with
  | nil =>
    by_cases hv : v = Memory.unlisted
    · simp [Memory.write, hv] at h
    · exact .inl ⟨by simpa [Memory.write, hv] using h, hv⟩
  | cons q m ih =>
    obtain ⟨b, x⟩ := q
    by_cases hv : v = Memory.unlisted <;> by_cases h1 : off < b <;> by_cases h2 : off = b <;>
      simp only [Memory.write, h1, h2, hv, if_true, if_false, List.mem_cons] at h ih ⊢ <;> grind

/-- A write keeps the canonical form. -/
theorem Memory.wf_write (m : Memory) (hm : m.wf = true) (off : Nat) (v : Byte) : (m.write off v).wf = true := by
  induction m with
  | nil => by_cases hv : v = Memory.unlisted <;> simp [Memory.write, Memory.wf, hv]
  | cons p m ih =>
    obtain ⟨b, x⟩ := p
    obtain ⟨hlt, hx, hwf⟩ := (Memory.wf_cons _ _).1 hm
    have ih := ih hwf
    by_cases h1 : off < b
    · by_cases hv : v = Memory.unlisted
      · simpa [Memory.write, h1, hv] using hm
      · simp only [Memory.write, h1, hv, if_true, if_false]
        refine (Memory.wf_cons _ _).2 ⟨fun q hq => ?_, hv, hm⟩
        rcases List.mem_cons.1 hq with rfl | hq
        · exact h1
        · exact lt_trans h1 (hlt q hq)
    · by_cases h2 : off = b
      · subst h2
        by_cases hv : v = Memory.unlisted
        · simpa [Memory.write, hv] using hwf
        · simpa [Memory.write, hv] using (Memory.wf_cons (off, v) m).2 ⟨hlt, hv, hwf⟩
      · simp only [Memory.write, h1, h2, if_false]
        refine (Memory.wf_cons _ _).2 ⟨fun q hq => ?_, hx, ih⟩
        rcases Memory.mem_write m off v q hq with ⟨rfl, -⟩ | hq
        · exact lt_of_le_of_ne (not_lt.1 h1) (Ne.symm h2)
        · exact hlt q hq

/-- A write inside a buffer lists no offset outside it. -/
theorem Memory.within_write (m : Memory) (len : Nat) (hm : m.within len = true) (off : Nat) (ho : off < len)
    (v : Byte) : (m.write off v).within len = true := by
  simp only [Memory.within, List.all_eq_true, decide_eq_true_eq] at hm ⊢
  intro p hp
  rcases Memory.mem_write m off v p hp with ⟨rfl, -⟩ | hp
  · exact ho
  · exact hm p hp

/-! ### `TX` and `RX` -/

/-- The buffers have the canonical form after reset. -/
theorem Memory.wf_reset : State.reset.tx.wf = true ∧ State.reset.rx.wf = true := by decide

theorem Memory.wf_writeFrame (m : Memory) (hm : m.wf = true) (F : FrameWord) : (m.writeFrame F).wf = true :=
  Memory.wf_write _ (Memory.wf_write _ hm _ _) _ _

theorem Memory.within_writeFrame (m : Memory) (hm : m.within Config.frameBytes = true) (F : FrameWord) :
    (m.writeFrame F).within Config.frameBytes = true :=
  Memory.within_write _ _ (Memory.within_write _ _ hm _ (by decide) _) _ (by decide) _

/-- What `TX` reads as after the two writes of a frame (20_memory.md R38). -/
theorem Memory.read_writeFrame (m : Memory) (hm : m.wf = true) (F : FrameWord) (a : Nat) :
    (m.writeFrame F).read a =
      if a = 0 then F.extractLsb' 8 8 else if a = 1 then F.extractLsb' 0 8 else m.read a := by
  rw [Memory.writeFrame, Memory.read_write _ (Memory.wf_write _ hm _ _), Memory.read_write _ hm]
  by_cases h0 : a = 0 <;> by_cases h1 : a = 1 <;> simp [h0, h1]

/-- The fill of `RX` keeps every property that each of its writes keeps. -/
theorem Memory.foldl_write_induction (P : Memory → Prop) (f : Nat → Byte) (offs : List Nat)
    (hstep : ∀ m, ∀ i ∈ offs, P m → P (m.write i (f i))) (m : Memory) (h : P m) :
    P (offs.foldl (fun m i => m.write i (f i)) m) := by
  induction offs generalizing m with
  | nil => exact h
  | cons i offs ih =>
    exact ih (fun m j hj hP => hstep m j (by simp [hj]) hP) _ (hstep m i (by simp) h)

theorem Memory.wf_fillAny (m : Memory) (hm : m.wf = true) (len n : Nat) : (m.fillAny len n).wf = true :=
  Memory.foldl_write_induction (fun m => m.wf = true) _ _ (fun m i _ h => Memory.wf_write m h i _) m hm

theorem Memory.within_fillAny (m : Memory) (len : Nat) (hm : m.within len = true) (n : Nat) :
    (m.fillAny len n).within len = true :=
  Memory.foldl_write_induction (fun m => m.within len = true) _ _
    (fun m i hi h => Memory.within_write m _ h i (List.mem_range.1 hi) _) m hm

theorem Memory.read_foldl_write (f : Nat → Byte) (offs : List Nat) (m : Memory) (hm : m.wf = true) (a : Nat) :
    (offs.foldl (fun m i => m.write i (f i)) m).read a = if a ∈ offs then f a else m.read a := by
  induction offs generalizing m with
  | nil => simp
  | cons i offs ih =>
    rw [List.foldl_cons, ih _ (Memory.wf_write _ hm _ _), Memory.read_write _ hm]
    by_cases h1 : a ∈ offs <;> by_cases h2 : a = i <;> simp [h1, h2]

/-- Every byte of `RX` is a free value after a TRANSFER (20_memory.md R39). -/
theorem Memory.read_fillAny (m : Memory) (hm : m.wf = true) (len n a : Nat) :
    (m.fillAny len n).read a = if a < len then Config.rxByte n a else m.read a := by
  rw [Memory.fillAny, Memory.read_foldl_write _ _ _ hm]
  simp

end Sys2Proof.Machine
end

