-- ==== Sys2Proof/Laws/Ops.lean ====
section
/-! SUPPORT. For each shared operation, once, everything it can do; later proofs cite these lemmas and do not unfold
the operations. -/

namespace Sys2Proof.Machine

variable (s : State)

/-! ### Answers -/

theorem openAnswer_cases (d : Draw) :
    d.accept = true ∧ openAnswer d = some d.handle ∨ d.accept = false ∧ openAnswer d = none := by
  cases h : d.accept <;> simp [openAnswer, h]

theorem readAnswer_cases (w : Nat) (d : Draw) :
    d.accept = true ∧ readAnswer w d = some (d.word.setWidth w) ∨ d.accept = false ∧ readAnswer w d = none := by
  cases h : d.accept <;> simp [readAnswer, h]

/-- Every answer an OPEN may get is the answer of some draw (92_eei_decisions.md D14). -/
theorem openAnswer_surjective : Function.Surjective openAnswer := by
  intro a
  cases a with
  | none => exact ⟨⟨false, 0, 0⟩, rfl⟩
  | some h => exact ⟨⟨true, h, 0⟩, rfl⟩

/-- Every answer a read-back of at most 32 bits may get is the answer of some draw (92_eei_decisions.md D14). -/
theorem readAnswer_surjective (w : Nat) (hw : w ≤ 32) : Function.Surjective (readAnswer w) := by
  intro a
  cases a with
  | none => exact ⟨⟨false, 0, 0⟩, rfl⟩
  | some v => exact ⟨⟨true, 0, v.setWidth 32⟩, by simp [readAnswer, BitVec.setWidth_setWidth_of_le, hw]⟩

/-! ### Attempts -/

@[simp] theorem Attempt.ok_andThen (f : State → Attempt) : (Attempt.ok s).andThen f = f s := rfl
@[simp] theorem Attempt.error_andThen (e : TransportError) (f : State → Attempt) :
    (Attempt.error e s).andThen f = .error e s := rfl
@[simp] theorem Attempt.refused_andThen (f : State → Attempt) : (Attempt.refused s).andThen f = .refused s := rfl

@[simp] theorem Attempt.settle_ok : (Attempt.ok s).settle = s := rfl
@[simp] theorem Attempt.settle_error (e : TransportError) : (Attempt.error e s).settle = s.raise e := rfl
@[simp] theorem Attempt.settle_refused : (Attempt.refused s).settle = s := rfl

theorem Attempt.andThen_assoc (a : Attempt) (f g : State → Attempt) :
    (a.andThen f).andThen g = a.andThen fun t => (f t).andThen g := by
  cases a <;> rfl

/-! ### Requests -/

theorem requestOpen_ok (h : (s.answer 0).accept = true) :
    requestOpen s =
      .ok { s.issue (.openBus Config.devicePath (some (s.answer 0).handle)) with
            handle := some (s.answer 0).handle } := by
  simp [requestOpen, openAnswer, h]

theorem requestOpen_fail (h : (s.answer 0).accept = false) :
    requestOpen s = .error .openFailed (s.issue (.openBus Config.devicePath none)) := by
  simp [requestOpen, openAnswer, h]

theorem requestWrite_ok (e : TransportError) (ev : Bool → Event) (h : (s.answer 0).accept = true) :
    requestWrite e ev s = .ok (s.issue (ev true)) := by
  simp [requestWrite, h]

theorem requestWrite_fail (e : TransportError) (ev : Bool → Event) (h : (s.answer 0).accept = false) :
    requestWrite e ev s = .error e (s.issue (ev false)) := by
  simp [requestWrite, h]

theorem requestRdMode_ok (h : (s.answer 0).accept = true) :
    requestRdMode s =
      .ok { s.issue (.rdMode (some ((s.answer 0).word.setWidth 2))) with
            busMode := some ((s.answer 0).word.setWidth 2) } := by
  simp [requestRdMode, readAnswer, h]

theorem requestRdMode_fail (h : (s.answer 0).accept = false) :
    requestRdMode s = .error .setModeFailed (s.issue (.rdMode none)) := by
  simp [requestRdMode, readAnswer, h]

theorem requestRdBpw_ok (h : (s.answer 0).accept = true) :
    requestRdBpw s =
      .ok { s.issue (.rdBpw (some ((s.answer 0).word.setWidth 8))) with
            busBpw := some ((s.answer 0).word.setWidth 8) } := by
  simp [requestRdBpw, readAnswer, h]

theorem requestRdBpw_fail (h : (s.answer 0).accept = false) :
    requestRdBpw s = .error .setBitsPerWordFailed (s.issue (.rdBpw none)) := by
  simp [requestRdBpw, readAnswer, h]

theorem requestRdSpeed_ok (h : (s.answer 0).accept = true) :
    requestRdSpeed s =
      .ok { s.issue (.rdSpeed (some (s.answer 0).word)) with busSpeed := some (s.answer 0).word } := by
  simp [requestRdSpeed, readAnswer, h]

theorem requestRdSpeed_fail (h : (s.answer 0).accept = false) :
    requestRdSpeed s = .error .setSpeedFailed (s.issue (.rdSpeed none)) := by
  simp [requestRdSpeed, readAnswer, h]

/-- Everything TRANSMIT can do. -/
theorem transmit_cases (F : FrameWord) :
    s.busBpw = some 8 ∧ statusFailed (s.answer 0).word = false ∧ transmit F s = .ok (s.sent F) ∨
    s.busBpw = some 8 ∧ statusFailed (s.answer 0).word = true ∧
      transmit F s = .error .transferFailed (s.sent F) ∨
    s.busBpw ≠ some 8 ∧ transmit F s = .refused ((s.putFrame F).refuse .bitsPerWordNot8) := by
  by_cases h : s.busBpw = some 8
  · cases hst : statusFailed (s.answer 0).word <;> simp [transmit, h, hst]
  · exact .inr (.inr ⟨h, by rw [transmit, if_neg h]⟩)

/-- The descriptor of a TRANSFER carries the two bytes of the frame (42_transmit.md R80, 20_memory.md R38). -/
theorem State.putFrame_descriptor (hm : s.tx.wf = true) (F : FrameWord) :
    (s.putFrame F).descriptor =
      { tx := (F.extractLsb' 8 8, F.extractLsb' 0 8), rxLen := s.rxLen, len := 2, speedHz := s.busSpeed,
        delayUs := s.cfgDelay, bitsPerWord := s.busBpw } := by
  simp [State.descriptor, Memory.read_writeFrame _ hm, Config.frameBytes]

/-- The transmission of a TRANSFER, field by field: the confirmed mode and speed, the delay, the frame, and the bytes that
`RX[0..1]` takes (42_transmit.md R80, R85). -/
@[simp] theorem State.transmission_mode (F : FrameWord) : (s.transmission F).mode = s.busMode := rfl
@[simp] theorem State.transmission_speedHz (F : FrameWord) : (s.transmission F).speedHz = s.busSpeed := rfl
@[simp] theorem State.transmission_delayUs (F : FrameWord) : (s.transmission F).delayUs = s.cfgDelay := rfl
@[simp] theorem State.transmission_sent (F : FrameWord) : (s.transmission F).sent = F := rfl
theorem State.transmission_shiftedIn (hm : s.rx.wf = true) (F : FrameWord) :
    (s.transmission F).shiftedIn = (s.sent F).rx.readFrame := by
  have h1 : 1 < s.rxLen := s.two_le_rxLen
  have h0 : 0 < s.rxLen := Nat.lt_of_succ_lt h1
  simp [State.transmission, Memory.readFrame, Memory.read_fillAny _ hm, h0, h1]

/-- After a TRANSFER every byte of `RX`, of any length `RX_LEN`, is the free value of its draw (20_memory.md R39). -/
theorem State.sent_rxFree (hm : s.rx.wf = true) (F : FrameWord) : (s.sent F).rxFree s.drawn := by
  intro off
  by_cases h : off < s.rxLen <;> simp [memRead, State.buffer, Memory.read_fillAny _ hm, h]

/-! ### Fetch and step -/

/-- Everything the taking of an input can come to. -/
theorem takeInput_cases (i : Input) :
    i = .reset ∧ s.handle.isSome = true ∧ takeInput i s = .done (s.refuse .resetWhileHandleValid) ∨
    i = .reset ∧ s.handle = none ∧ takeInput i s = .done s.powerOn ∨
    i ≠ .reset ∧ s.marked = true ∧ takeInput i s = .done s ∨
    i = .secondHost ∧ s.marked = false ∧ takeInput i s = .done (s.refuse .secondHost) ∨
    (∃ c j, i = .word c ∧ s.marked = false ∧ decode c = some j ∧ takeInput i s = .run j s) ∨
    (∃ w, i = .word (.host w) ∧ s.marked = false ∧ decodeHost w = none ∧
      takeInput i s = .done (s.refuse .reservedOperandBits)) ∨
    (∃ c, i = .word c ∧ s.marked = false ∧ decode c = none ∧ (∀ w, c ≠ .host w) ∧ takeInput i s = .never) := by
  cases i with
  | reset => cases h : s.handle <;> simp [takeInput, State.takeReset, h]
  | secondHost => cases h : s.marked <;> simp [takeInput, h]
  | word c =>
    cases h : s.marked
    · cases hd : decode c with
      | some j => simp [takeInput, takeWord, h, hd]
      | none =>
        cases c with
        | host w => simp_all [takeInput, takeWord, decode]
        | frame w => simp_all [takeInput, takeWord]
        | request w => simp_all [takeInput, takeWord]
    · simp [takeInput, h]

@[simp] theorem step_of_no_input (h : s.inputs = []) : step s = .next s := by
  simp [step, fetch, h]

theorem fetch_of_input (i : Input) (rest : List Input) (h : s.inputs = i :: rest) :
    fetch s = takeInput i { s with inputs := rest } := by
  simp [fetch, h]

end Sys2Proof.Machine
end

