-- ==== Sys2Proof/Laws/BringUp.lean ====
section
/-! SUPPORT. What INIT's chain of requests comes to (43_driver.md R92): CONFIGURE complete, or stopped at the first
request the platform rejects, and then everything `runInit` can do. -/

namespace Sys2Proof.Machine

variable (s : State)

/-! ### Answers of changed states -/

@[simp] theorem State.answer_latch (c : InitImage) (k : Nat) : (s.latch c).answer k = s.answer k := rfl
@[simp] theorem State.answer_putFrame (F : FrameWord) (k : Nat) : (s.putFrame F).answer k = s.answer k := rfl
theorem State.answer_with_handle (h : Option Handle) (k : Nat) :
    State.answer { s with handle := h } k = s.answer k := rfl
theorem State.answer_with_busMode (m : Option (BitVec 2)) (k : Nat) :
    State.answer { s with busMode := m } k = s.answer k := rfl
theorem State.answer_with_busBpw (b : Option (BitVec 8)) (k : Nat) :
    State.answer { s with busBpw := b } k = s.answer k := rfl

/-! ### TRANSMIT by its outcome -/

theorem transmit_ok (F : FrameWord) (hb : s.busBpw = some 8) (h : statusFailed (s.answer 0).word = false) :
    transmit F s = .ok (s.sent F) := by
  rw [transmit, if_pos hb, h]
  rfl

theorem transmit_fail (F : FrameWord) (hb : s.busBpw = some 8) (h : statusFailed (s.answer 0).word = true) :
    transmit F s = .error .transferFailed (s.sent F) := by
  rw [transmit, if_pos hb, h]
  rfl

theorem transmit_refused (F : FrameWord) (hb : s.busBpw ≠ some 8) :
    transmit F s = .refused ((s.putFrame F).refuse .bitsPerWordNot8) := by
  rw [transmit, if_neg hb]

/-- ABORT in closed form (43_driver.md R92). -/
theorem State.abort_eq (e : TransportError) :
    s.abort e = s.afterFailedInit (if s.handle.isSome then [.release] else []) e 0 := by
  cases h : s.handle <;>
    simp [State.abort, State.closeHandle, h, State.rollback, State.reply, State.afterFailedInit, State.reset,
      State.record]

/-! ### OPEN and CONFIGURE -/

/-- The state after INIT's first lines, OPEN and CONFIGURE, all answered `Ok`. -/
def State.configured (c : InitImage) : State :=
  { s.latch c with
    busMode := some ((s.answer 2).word.setWidth 2)
    busBpw := some ((s.answer 4).word.setWidth 8)
    busSpeed := some (s.answer 6).word
    handle := some (s.answer 0).handle
    trace := s.trace ++ (s.initEvents c).take 7
    drawn := s.drawn + 7 }

theorem State.configured_answer (c : InitImage) (k : Nat) : (s.configured c).answer k = s.answer (7 + k) := by
  apply State.answer_shift <;> rfl

/-- The frame INIT sends is the frame of its operand. -/
theorem State.configured_encode (c : InitImage) :
    (s.configured c).encode (s.configured c).cfgInitValue = s.initFrame c := rfl

/-- What INIT puts on the bus is the transmission of its initial frame. -/
theorem State.configured_transmission (c : InitImage) (h : ∀ k, k < 7 → (s.answer k).accept = true) :
    (s.configured c).transmission (s.initFrame c) = s.initTransmission c := by
  have h2 := h 2 (by omega)
  have h6 := h 6 (by omega)
  simp [State.initTransmission, State.transmission, State.configured, readAnswer, h2, h6]

/-- INIT's events are those of CONFIGURE and the TRANSFER of the initial frame. -/
theorem State.initEvents_eq (c : InitImage) (h : ∀ k, k < 7 → (s.answer k).accept = true) :
    s.initEvents c =
      (s.initEvents c).take 7 ++ [(s.configured c).transferEvent (s.initFrame c) (s.answer 7).word] := by
  have h4 := h 4 (by omega)
  have h6 := h 6 (by omega)
  simp [State.initEvents, State.transferEvent, State.configured, State.rxLen, State.latch, readAnswer, h4, h6]

theorem openConfigure_ok (c : InitImage) (h : ∀ k, k < 7 → (s.answer k).accept = true) :
    (requestOpen (s.latch c)).andThen configure = .ok (s.configured c) := by
  have h0 := h 0 (by omega)
  have h1 := h 1 (by omega)
  have h2 := h 2 (by omega)
  have h3 := h 3 (by omega)
  have h4 := h 4 (by omega)
  have h5 := h 5 (by omega)
  have h6 := h 6 (by omega)
  rw [requestOpen_ok _ (by simpa using h0)]
  simp only [Attempt.ok_andThen, configure, requestWrMode, requestWrBpw, requestWrSpeed, requestWrite, requestRdMode,
    requestRdBpw, requestRdSpeed, readAnswer, State.answer_with_handle, State.answer_with_busMode,
    State.answer_with_busBpw, State.answer_latch, State.answer_of_issue, h1, h2, h3, h4, h5, h6, if_true,
    Nat.zero_add, Nat.reduceAdd]
  simp [State.configured, State.issue, State.initEvents, openAnswer, readAnswer, h0, h1, h2, h3, h4, h5, h6]

/-- INIT's chain of requests stops at the first one the platform rejects, with that request's error, and what an ABORT
needs to know of the state it stops in. -/
theorem openConfigure_fail (c : InitImage) (k : Nat) (hk : k < 7)
    (h : ∀ j, j < k → (s.answer j).accept = true) (hf : (s.answer k).accept = false) :
    ∃ (e : TransportError) (t : State), initErrors[k]? = some e ∧
      (requestOpen (s.latch c)).andThen configure = .error e t ∧ t.lifecycle = .initializing ∧
      t.trace = s.trace ++ (s.initEvents c).take (k + 1) ∧ t.drawn = s.drawn + (k + 1) ∧ t.fault = s.fault ∧
      t.refused = s.refused ∧ t.tx = s.tx ∧ t.rx = s.rx ∧ t.replies = s.replies ∧ t.inputs = s.inputs ∧
      t.platform = s.platform ∧ t.channelBug = s.channelBug ∧ t.rxExtra = s.rxExtra ∧ t.wire = s.wire ∧
      t.handle = if k = 0 then s.handle else some (s.answer 0).handle := by
  by_cases hk0 : k = 0
  · subst hk0
    rw [requestOpen_fail _ (by simpa using hf)]
    simp [initErrors, State.issue, State.latch, State.initEvents, openAnswer, hf]
  have h0 := h 0 (by omega)
  rw [requestOpen_ok _ (by simpa using h0)]
  simp only [Attempt.ok_andThen]
  interval_cases k
  · exact absurd rfl hk0
  all_goals
    try have h1 := h 1 (by omega)
    try have h2 := h 2 (by omega)
    try have h3 := h 3 (by omega)
    try have h4 := h 4 (by omega)
    try have h5 := h 5 (by omega)
    simp only [*, configure, requestWrMode, requestWrBpw, requestWrSpeed, requestWrite, requestRdMode, requestRdBpw,
      requestRdSpeed, readAnswer, State.answer_with_handle, State.answer_with_busMode, State.answer_with_busBpw,
      State.answer_latch, State.answer_of_issue, Attempt.ok_andThen, Attempt.error_andThen, initErrors, Nat.zero_add,
      Nat.reduceAdd, if_true, if_false, Bool.false_eq_true]
    simp [*, State.issue, State.latch, State.initEvents, openAnswer, readAnswer]

/-- Of seven answers, all are `Ok` or there is a first `Fail`. -/
theorem State.first_fail_of_not_all (h : ¬ ∀ k, k < 7 → (s.answer k).accept = true) :
    ∃ k, k < 7 ∧ (∀ j, j < k → (s.answer j).accept = true) ∧ (s.answer k).accept = false := by
  classical
  have hp : ∃ k, k < 7 ∧ (s.answer k).accept = false := by
    by_contra hc
    exact h fun k hk => by
      by_contra ha
      exact hc ⟨k, hk, by simpa using ha⟩
  refine ⟨Nat.find hp, (Nat.find_spec hp).1, fun j hj => ?_, (Nat.find_spec hp).2⟩
  by_contra ha
  exact Nat.find_min hp hj ⟨lt_trans hj (Nat.find_spec hp).1, by simpa using ha⟩

/-- Everything `runInit` can do: stop at a rejected request, bring the block up, fail to send the initial frame, or be
refused at a word size other than 8. -/
theorem runInit_cases (c : InitImage) :
    (∃ k e, k < 7 ∧ (∀ j, j < k → (s.answer j).accept = true) ∧ (s.answer k).accept = false ∧
      initErrors[k]? = some e ∧
      runInit c s = s.afterFailedInit ((s.initEvents c).take (k + 1) ++
        (if k = 0 ∧ s.handle = none then [] else [.release])) e (k + 1)) ∨
    (∀ k, k < 7 → (s.answer k).accept = true) ∧
      ((s.configured c).busBpw = some 8 ∧ statusFailed (s.answer 7).word = false ∧
          runInit c s =
            { (s.configured c).sent (s.initFrame c) with
              frame := some (s.initFrame c), lifecycle := .ready, replies := s.replies ++ [.ok] } ∨
        (s.configured c).busBpw = some 8 ∧ statusFailed (s.answer 7).word = true ∧
          runInit c s = ((s.configured c).sent (s.initFrame c)).abort .transferFailed ∨
        (s.configured c).busBpw ≠ some 8 ∧
          runInit c s = ((s.configured c).putFrame (s.initFrame c)).refuse .bitsPerWordNot8) := by
  by_cases h : ∀ k, k < 7 → (s.answer k).accept = true
  · have ha : (s.configured c).answer 0 = s.answer 7 := s.configured_answer c 0
    refine .inr ⟨h, ?_⟩
    simp only [runInit, bringUp, openConfigure_ok s c h, Attempt.ok_andThen, transmitValue, State.configured_encode,
      ← ha]
    rcases transmit_cases (s.configured c) (s.initFrame c) with ⟨hb, hst, ht⟩ | ⟨hb, hst, ht⟩ | ⟨hb, ht⟩
    · exact .inl ⟨hb, hst, by rw [ht]; rfl⟩
    · refine .inr (.inl ⟨hb, hst, ?_⟩)
      rw [ht]
      exact State.raise_of_initializing _ _ rfl
    · exact .inr (.inr ⟨hb, by rw [ht]; rfl⟩)
  · obtain ⟨k, hk, hok, hf⟩ := s.first_fail_of_not_all h
    obtain ⟨e, t, he, ht, hl, htr, hd, hfa, hre, htx, hrx, hrp, hin, hpl, hcb, hrl, hw, hh⟩ :=
      openConfigure_fail s c k hk hok hf
    refine .inl ⟨k, e, hk, hok, hf, he, ?_⟩
    simp only [runInit, bringUp, ht, Attempt.error_andThen]
    rw [State.raise_of_initializing _ _ hl, State.abort_eq]
    simp only [State.afterFailedInit, htr, hd, hfa, hre, htx, hrx, hrp, hin, hpl, hcb, hrl, hw, hh, List.append_assoc,
      Nat.add_zero]
    by_cases h0 : k = 0
    · cases hs : s.handle <;> simp [h0]
    · simp [h0]

end Sys2Proof.Machine
end

