-- ==== Sys2Proof/Laws/PerInstr.lean ====
section
/-! SUPPORT. What is shown of each instruction as a piece of syntax: its code word is well formed and matches its row
of spec/opcode_table.json, in the format, the mask and the match the row gives. -/

namespace Sys2Proof.Laws

/-- A row of spec/opcode_table.json: the bits of its format in whole bytes, its mask and its match. -/
structure Row where
  bits : Nat
  mask : Nat
  fixed : Nat
deriving DecidableEq, Repr

/-- The row of each instruction, as spec/opcode_table.json has it. -/
def row : Instr → Row
  | .nop => ⟨96, 0xFFFFFFFFFFFFFFFFFFFFFFFF, 0x000000000000000000000000⟩
  | .init _ => ⟨96, 0xFFFF00000000000000C00000, 0x400000000000000000000000⟩
  | .setv _ => ⟨96, 0xFFFFFFFFFFFFFFFFFFFF0000, 0x800000000000000000000000⟩
  | .close => ⟨96, 0xFFFFFFFFFFFFFFFFFFFFFFFF, 0xC00000000000000000000000⟩
  | .dacWrite _ => ⟨16, 0x0000, 0x0000⟩
  | .openBus => ⟨8, 0xF, 0x1⟩
  | .wrMode => ⟨8, 0xF, 0x2⟩
  | .rdMode => ⟨8, 0xF, 0x3⟩
  | .wrBpw => ⟨8, 0xF, 0x4⟩
  | .rdBpw => ⟨8, 0xF, 0x5⟩
  | .wrSpeed => ⟨8, 0xF, 0x6⟩
  | .rdSpeed => ⟨8, 0xF, 0x7⟩
  | .transfer => ⟨8, 0xF, 0x8⟩
  | .release => ⟨8, 0xF, 0x9⟩

/-- The code word of `i` is well formed, has the bits of its row, and matches it. -/
def MatchesRow.Statement (i : Instr) : Prop :=
  (encode i).wellFormed = true ∧ (encode i).tableBits = (row i).bits ∧
    (encode i).toNat &&& (row i).mask = (row i).fixed

/-! ### Host command words -/

theorem hostWord_op (op : BitVec 2) (x : BitVec 80) : (hostWord op x).extractLsb' 94 2 = op := by
  rw [hostWord, BitVec.extractLsb'_append_eq_of_le (by omega)]
  exact BitVec.extractLsb'_append_eq_left

theorem hostWord_reserved (op : BitVec 2) (x : BitVec 80) : (hostWord op x).extractLsb' 80 14 = 0 := by
  rw [hostWord, BitVec.extractLsb'_append_eq_of_le (by omega)]
  exact BitVec.extractLsb'_append_eq_right

theorem hostWord_operand (op : BitVec 2) (x : BitVec 80) (a n : Nat) (h : a + n ≤ 80) :
    (hostWord op x).extractLsb' a n = x.extractLsb' a n := by
  rw [hostWord, BitVec.extractLsb'_append_eq_of_add_le h]

theorem encodeImage_rsv2 (c : InitImage) : (encodeImage c).extractLsb' 22 2 = 0 := by
  unfold encodeImage
  iterate 6 rw [BitVec.extractLsb'_append_eq_of_le (by omega)]
  exact BitVec.extractLsb'_append_eq_right

/-- A host word masked by its row's mask: the `op` and the reserved field are fixed, and the operand is masked. -/
theorem hostWord_masked (op : BitVec 2) (x m : BitVec 80) :
    hostWord op x &&& (3#2 ++ 0x3FFF#14 ++ m) = hostWord op (x &&& m) := by
  rw [hostWord, BitVec.and_append, BitVec.and_append, hostWord, BitVec.zero_and,
    show (3#2 : BitVec 2) = BitVec.allOnes 2 from rfl, BitVec.and_allOnes]

/-- The same, as numbers. -/
theorem hostWord_masked_toNat (op : BitVec 2) (x m r : BitVec 80) (mask : Nat)
    (hmask : (3#2 ++ 0x3FFF#14 ++ m : BitVec 96).toNat = mask) (hx : x &&& m = r) :
    (hostWord op x).toNat &&& mask = (hostWord op r).toNat := by
  rw [← hmask, ← BitVec.toNat_and, hostWord_masked, hx]

theorem encodeImage_masked (c : InitImage) : encodeImage c &&& 0xC00000#80 = 0 := by
  have h : (0xC00000#80 : BitVec 80) = 0#16 ++ 0#32 ++ 0#8 ++ 3#2 ++ 0#2 ++ 0#1 ++ 0#1 ++ 0#1 ++ 0#1 ++ 0#16 := rfl
  rw [h, encodeImage]
  iterate 9 erw [BitVec.and_append]
  simp only [BitVec.and_zero, BitVec.zero_and]
  rfl

theorem setWidth_masked (v : BitVec 16) : v.setWidth 80 &&& 0xFFFFFFFFFFFFFFFF0000#80 = 0 := by
  have h : (0xFFFFFFFFFFFFFFFF0000#80 : BitVec 80) = BitVec.allOnes 64 ++ 0#16 := rfl
  have h' : v.setWidth 80 = 0#64 ++ v := by
    apply BitVec.eq_of_toNat_eq
    have := v.isLt
    rw [BitVec.toNat_setWidth]
    erw [BitVec.toNat_append]
    rw [Nat.mod_eq_of_lt (by omega)]
    simp
  rw [h, h', BitVec.and_append, BitVec.and_zero, BitVec.zero_and]
  rfl

theorem setWidth_unused (v : BitVec 16) : (v.setWidth 80).extractLsb' 16 64 = 0 := by
  ext i hi
  simp

/-! ### One lemma for each instruction -/

theorem MatchesRow.nop : MatchesRow.Statement .nop := by
  refine ⟨by decide, rfl, by decide⟩

theorem MatchesRow.init (c : InitImage) : MatchesRow.Statement (.init c) := by
  refine ⟨?_, rfl, ?_⟩
  · simp [encode, CodeWord.wellFormed, hostWordWellFormed, reservedZero, unusedOperandZero, hostWord_op,
      hostWord_reserved, hostWord_operand, encodeImage_rsv2]
  · exact hostWord_masked_toNat 1 _ 0xC00000#80 0 _ rfl (encodeImage_masked c)

theorem MatchesRow.setv (v : BitVec 16) : MatchesRow.Statement (.setv v) := by
  refine ⟨?_, rfl, ?_⟩
  · simp [encode, CodeWord.wellFormed, hostWordWellFormed, reservedZero, unusedOperandZero, hostWord_op,
      hostWord_reserved, hostWord_operand, setWidth_unused]
  · exact hostWord_masked_toNat 2 _ 0xFFFFFFFFFFFFFFFF0000#80 0 _ rfl (setWidth_masked v)

theorem MatchesRow.close : MatchesRow.Statement .close := by
  refine ⟨by decide, rfl, by decide⟩

theorem MatchesRow.dacWrite (f : FrameFields) : MatchesRow.Statement (.dacWrite f) :=
  ⟨rfl, rfl, Nat.and_zero _⟩

theorem MatchesRow.openBus : MatchesRow.Statement .openBus := by
  refine ⟨by decide, rfl, by decide⟩

theorem MatchesRow.wrMode : MatchesRow.Statement .wrMode := by
  refine ⟨by decide, rfl, by decide⟩

theorem MatchesRow.rdMode : MatchesRow.Statement .rdMode := by
  refine ⟨by decide, rfl, by decide⟩

theorem MatchesRow.wrBpw : MatchesRow.Statement .wrBpw := by
  refine ⟨by decide, rfl, by decide⟩

theorem MatchesRow.rdBpw : MatchesRow.Statement .rdBpw := by
  refine ⟨by decide, rfl, by decide⟩

theorem MatchesRow.wrSpeed : MatchesRow.Statement .wrSpeed := by
  refine ⟨by decide, rfl, by decide⟩

theorem MatchesRow.rdSpeed : MatchesRow.Statement .rdSpeed := by
  refine ⟨by decide, rfl, by decide⟩

theorem MatchesRow.transfer : MatchesRow.Statement .transfer := by
  refine ⟨by decide, rfl, by decide⟩

theorem MatchesRow.release : MatchesRow.Statement .release := by
  refine ⟨by decide, rfl, by decide⟩

end Sys2Proof.Laws
end

