-- ==== Sys2Proof/Tests/Slice0.lean ====
section
/-! SUPPORT. Tests. Expected results are the spec's own: the tables and words of 95_test_vectors.md, the encodings of
30_encoding.md. Then one witness for each statement that has hypotheses: a state and operands that meet them. -/

namespace Sys2Proof.Tests

open Sys2Proof Sys2Proof.Machine

/-! ### Words that spell no command (95_test_vectors.md L2-D1, 30_encoding.md R49, R51, R52, R56) -/

theorem test_refuses_reserved_field : hostWordWellFormed 0x000100000000000000000000 = false := by decide
theorem test_refuses_top_reserved_bit : hostWordWellFormed 0x200000000000000000000000 = false := by decide
theorem test_refuses_nop_operand : hostWordWellFormed 0x000000000000000000000001 = false := by decide
theorem test_refuses_init_rsv2 : hostWordWellFormed 0x400000000098968008C80000 = false := by decide
theorem test_refuses_setv_unused_bits : hostWordWellFormed 0x800000000000000000010000 = false := by decide
theorem test_refuses_close_operand : hostWordWellFormed 0xC00000000000000000000001 = false := by decide
theorem test_refuses_request_codes :
    ([0x0, 0xA, 0xB, 0xC, 0xD, 0xE, 0xF].map fun w : RequestCode => requestCodeIssued w) =
      [false, false, false, false, false, false, false] := by decide
theorem test_ill_formed_words_do_not_decode :
    decodeHost 0x000100000000000000000000 = none ∧ decodeHost 0x400000000098968008C80000 = none ∧
      decodeHost 0x800000000000000000010000 = none ∧ decodeHost 0xC00000000000000000000001 = none ∧
      decodeRequest 0x0 = none ∧ decodeRequest 0xA = none ∧ decodeRequest 0xF = none := by decide
theorem test_wrong_widths_do_not_decode :
    decodeTableWord 96 0x1000000000000000000000000 = none ∧ decodeTableWord 16 0x10000 = none ∧
      decodeTableWord 8 0x11 = none ∧ decodeTableWord 32 0 = none := by decide

/-! ### Decoding (30_encoding.md R50 to R55; the words of 95_test_vectors.md P1, P2, P4, E1, E2) -/

theorem test_decode_nop : decodeTableWord 96 0x000000000000000000000000 = some .nop := by decide
theorem test_decode_init_defaults :
    decodeTableWord 96 0x400000000098968008080000 = some (.init InitImage.defaults) := by decide
/-- P2: `INIT value=4095, channel=B, buffered=1, gain=X2`. -/
theorem test_decode_init_p2 :
    decodeTableWord 96 0x4000000000989680080F0FFF =
      some (.init { InitImage.defaults with value := 4095, channel := .b, buffered := true, gain := .x2 }) := by decide
/-- P4: `INIT mode=3, speed=20000000, delay=5`. -/
theorem test_decode_init_p4 :
    decodeTableWord 96 0x4000000501312D0008380000 =
      some (.init { InitImage.defaults with mode := 3, speed := 20000000, delay := 5 }) := by decide
/-- The fields of R51 one after the other, from `op` down to `value`, each with a value of its own. -/
theorem test_decode_init_bit_by_bit :
    decodeHost (0b01#2 ++ 0#14 ++ 0xBEEF#16 ++ 0x12345678#32 ++ 0xA5#8 ++ 0b00#2 ++ 0b10#2 ++ 0b0#1 ++ 0b1#1 ++ 0b0#1
        ++ 0b1#1 ++ 0x9C3D#16) =
      some (.init { value := 0x9C3D, channel := .b, buffered := false, gain := .x2, active := false, mode := 2,
                    bpw := 0xA5, speed := 0x12345678, delay := 0xBEEF }) := by decide
theorem test_decode_setv : decodeTableWord 96 0x800000000000000000002710 = some (.setv 10000) := by decide
theorem test_decode_close : decodeTableWord 96 0xC00000000000000000000000 = some .close := by decide
/-- R53's pattern `CBGAVVVVVVVVVVVV`: channel A, unbuffered, gain X1, shutdown, value 0xABC. -/
theorem test_decode_frame_bit_by_bit :
    decodeTableWord 16 0b1010101010111100 =
      some (.dacWrite { channel := .a, buffered := false, gain := .x1, active := false, value := 0xABC }) := by decide
theorem test_decode_open : decodeTableWord 8 0b0001 = some .openBus := by decide
theorem test_decode_wr_mode : decodeTableWord 8 0b0010 = some .wrMode := by decide
theorem test_decode_rd_mode : decodeTableWord 8 0b0011 = some .rdMode := by decide
theorem test_decode_wr_bpw : decodeTableWord 8 0b0100 = some .wrBpw := by decide
theorem test_decode_rd_bpw : decodeTableWord 8 0b0101 = some .rdBpw := by decide
theorem test_decode_wr_speed : decodeTableWord 8 0b0110 = some .wrSpeed := by decide
theorem test_decode_rd_speed : decodeTableWord 8 0b0111 = some .rdSpeed := by decide
theorem test_decode_transfer : decodeTableWord 8 0b1000 = some .transfer := by decide
theorem test_decode_release : decodeTableWord 8 0b1001 = some .release := by decide

/-! ### The register encoder (95_test_vectors.md E1, E2, L2-E1, L2-E2, L2-E3) and the speed clamp (L2-T1) -/

theorem test_encode_e1 : encodeFrame false .a false .x1 true 0 = 0xB000 := by decide
theorem test_encode_e2 : encodeFrame false .b true .x2 true 4095 = 0x5FFF := by decide
/-- L2-E1, all sixteen configurations with the value 0x5A5, in the table's order. -/
theorem test_encode_control_bits :
    ([Channel.a, .b].flatMap fun ch => [false, true].flatMap fun buf => [Gain.x1, .x2].flatMap fun g =>
      [false, true].map fun act => encodeFrame false ch buf g act 0x5A5) =
    [0xA5A5, 0xB5A5, 0x85A5, 0x95A5, 0xE5A5, 0xF5A5, 0xC5A5, 0xD5A5,
     0x25A5, 0x35A5, 0x05A5, 0x15A5, 0x65A5, 0x75A5, 0x45A5, 0x55A5] := by decide
/-- L2-E2, the column of configuration beta. -/
theorem test_encode_clamp :
    ([255, 256, 4094, 4095, 4096, 4097, 10000, 32768, 65535].map fun v => encodeFrame false .b true .x2 false v) =
      [0x40FF, 0x4100, 0x4FFE, 0x4FFF, 0x4FFF, 0x4FFF, 0x4FFF, 0x4FFF, 0x4FFF] := by decide
theorem test_encode_channel_bug :
    encodeFrame true .a false .x1 true 0 = 0x3000 ∧ encodeFrame true .b false .x1 true 0 = 0x3000 ∧
      encodeFrame false .b false .x1 true 0 = 0x3000 := by decide
theorem test_clamp_speed :
    ([0, 1, 9999999, 10000000, 10000001, 20000000, 0xFFFFFFFF].map clampSpeed) =
      [0, 1, 9999999, 10000000, 10000000, 10000000, 10000000] := by decide

/-! ### The wire (95_test_vectors.md L2-S1) -/

theorem test_serialize :
    serialize 0xB800 = [true, false, true, true, true, false, false, false,
                        false, false, false, false, false, false, false, false] := by decide
/-- Mode 3: the receiver samples on the rising edges, SCLK being high at rest. -/
theorem test_mode_3_samples_on_rising_edges :
    sampled .mosi true true true true false
      [.clock false, .data true, .clock true, .clock false, .data false, .clock true] = [true, false] := by decide
/-- Mode 1: the receiver samples on the falling edges, SCLK being low at rest, and the master samples MISO there too. -/
theorem test_mode_1_samples_on_falling_edges :
    let pins := [.clock true, .data true, .miso false, .clock false, .clock true, .miso true, .clock false]
    sampled .mosi false true true false false pins = [true, true] ∧
      sampled .miso false true true false false pins = [false, true] := by decide
/-- 70_reset_and_hazards.md R123: 1.6 microseconds at the 10 MHz ceiling. -/
theorem test_frame_time : minFrameSeconds 10000000 0 = some (16 / 10000000) := by
  simp [minFrameSeconds]

/-- P4, command 2: 2 microseconds of clocking at 8 MHz and the delay of 5. -/
theorem test_transmission_time :
    Transmission.minSeconds
      { mode := some 3, speedHz := some 8000000, delayUs := 5, sent := 0xB123, shiftedIn := 0 } =
      some (7 / 1000000) := by
  simp [Transmission.minSeconds, minFrameSeconds]
  norm_num

/-! ### The assembler (30_encoding.md R58, 95_test_vectors.md P2, P4) -/

theorem test_assemble_bare_init : assembleLine "INIT".toList = .command (.init InitImage.defaults) := by decide
theorem test_assemble_p2 :
    assemble ["INIT value=4095, channel=B, buffered=1, gain=X2".toList, "SETV 10000 ; saturates".toList,
        "; a comment".toList, "CLOSE".toList] =
      some [.host 0x4000000000989680080F0FFF, .host 0x800000000000000000002710, .host 0xC00000000000000000000000] := by
  decide
theorem test_assemble_p4 :
    (assemble ["INIT mode=3, speed=20000000, delay=5".toList, "SETV 0x123".toList]) =
      some [.host 0x4000000501312D0008380000, .host 0x800000000000000000000123] := by decide
theorem test_assemble_errors :
    assembleLine "SETV 70000".toList = .error ∧ assembleLine "INIT mode=4".toList = .error ∧
      assembleLine "INIT mode=1, mode=1".toList = .error ∧ assembleLine "nop".toList = .error := by decide

/-! ### States for the steps below -/

/-- An answer `Ok` that carries a word; as a TRANSFER's answer the word is the status. -/
def yes (w : BitVec 32) : Draw := { accept := true, handle := 7, word := w }

/-- The answer `Fail`. -/
def no : Draw := { accept := false, handle := 0, word := 0 }

/-- The answers to INIT's eight requests, all `Ok`: the confirmed mode, word size and speed, and the status. -/
def initDraws (mode bpw speed status : BitVec 32) : List Draw :=
  [yes 0, yes 0, yes mode, yes 0, yes bpw, yes 0, yes speed, yes status]

/-- The reset state with the platform's next answers fixed. -/
def fresh (draws : List Draw) : State := { State.reset with platform := draws }

/-- The events of a default INIT (95_test_vectors.md P1). -/
def initTrace : List Event :=
  [.openBus Config.devicePath (some 7), .wrMode 0 true, .rdMode (some 0), .wrBpw 8 true, .rdBpw (some 8),
   .wrSpeed 10000000 true, .rdSpeed (some 10000000),
   .transfer { tx := (0xB0, 0x00), rxLen := 2, len := 2, speedHz := some 10000000, delayUs := 0,
               bitsPerWord := some 8 } 2]

/-- READY after a default INIT. -/
def ready (draws : List Draw) : State :=
  { fresh draws with
    lifecycle := .ready, busMode := some 0, busBpw := some 8, busSpeed := some 10000000, handle := some 7,
    frame := some 0xB000, trace := initTrace,
    wire := [{ mode := some 0, speedHz := some 10000000, delayUs := 0, sent := 0xB000,
               shiftedIn := Config.rxByte 0 0 ++ Config.rxByte 0 1 }], tx := [(0, 0xB0)], replies := [.ok] }

/-- CLOSED after a default INIT and a CLOSE. -/
def closed : State :=
  { ready [] with lifecycle := .closed, handle := none, trace := initTrace ++ [.release], replies := [.ok, .ok] }

/-- INITIALIZING, a handle open and a frame kept: no run leads here. -/
def midway (draws : List Draw) : State := { ready draws with lifecycle := .initializing }

/-- What an instruction leads to, the given state itself where it stops. -/
def after (i : Instr) (s : State) : State :=
  match exec i s with
  | .next t => t
  | _ => s

/-- What a step leads to, the given state itself where it stops. -/
def stepped (s : State) : State :=
  match step s with
  | .next t => t
  | _ => s

/-! ### One step of each instruction (95_test_vectors.md Parts 2 and 3) -/

theorem test_nop_in_closed : after .nop closed = { closed with replies := [.ok, .ok, .ok] } := rfl

/-- P4: the speed is clamped, the coerced speed is kept, the first frame goes out. -/
theorem test_init_p4 :
    let s := after (.init { InitImage.defaults with mode := 3, speed := 20000000, delay := 5 })
      (fresh (initDraws 3 8 8000000 2))
    s.lifecycle = .ready ∧ s.cfgSpeed = 10000000 ∧ s.busSpeed = some 8000000 ∧ s.busMode = some 3 ∧
      s.frame = some 0xB000 ∧ s.replies = [.ok] ∧ s.tx = [(0, 0xB0)] := by decide
/-- L2-T3, rollback of configuration: WR_SPEED answers `Fail`. -/
theorem test_init_rolls_back :
    let s := after (.init { InitImage.defaults with value := 0x123, active := false })
      (fresh [yes 0, yes 0, yes 0, yes 0, yes 8, no])
    s.cfgInitValue = 0 ∧ s.cfgActive = true ∧ s.lifecycle = .uninit ∧ s.handle = none ∧
      s.replies = [.error .setSpeedFailed] ∧ s.trace.map Event.code = [1, 2, 3, 4, 5, 6, 9] := by decide
/-- L2-T4, the row of status 0, and the value saturated as in E4. -/
theorem test_setv_saturates :
    let s := after (.setv 10000) (ready [yes 0])
    s.frame = some 0xBFFF ∧ s.replies = [.ok, .ok] ∧ s.tx = [(0, 0xBF), (1, 0xFF)] := by decide
/-- L2-T4, the row of status -0x80000000. -/
theorem test_setv_failure_keeps_frame :
    let s := after (.setv 0x800) (ready [yes 0x80000000])
    s.frame = some 0xB000 ∧ s.lifecycle = .ready ∧ s.handle = some 7 ∧ s.replies = [.ok, .error .transferFailed] ∧
      s.tx = [(0, 0xB8)] := by decide
/-- P4, commands 3 and 4. -/
theorem test_close_twice :
    (after .close (ready [])).trace = initTrace ++ [.release] ∧
      (after .close (after .close (ready []))).trace = initTrace ++ [.release] := ⟨rfl, rfl⟩
/-- L2-T2: WR_MODE 3 confirmed as 0 leaves `CFG_MODE = 3`, and the TRANSFER runs in mode 0. -/
theorem test_transfer_runs_in_the_confirmed_mode :
    let s := after (.init { InitImage.defaults with mode := 3 }) (fresh (initDraws 0 8 10000000 2))
    s.cfgMode = 3 ∧ s.wire.map Transmission.mode = [some 0] ∧ s.wire.map Transmission.sent = [0xB000] := by decide
/-- L2-E3: INIT and SETV of channel A under `CHANNEL_BUG`. -/
theorem test_channel_bug_in_the_machine :
    (after (.init InitImage.defaults) { fresh (initDraws 0 8 10000000 2) with channelBug := true }).frame = some 0x3000 ∧
      (after (.setv 0) { ready [yes 2] with channelBug := true }).frame = some 0x3000 := by decide
/-- P2, command 2: the frame 0x5FFF as sent. -/
theorem test_dac_write :
    (after (.dacWrite (decodeFrame 0x5FFF)) (ready [yes 2])).trace = initTrace ++
      [.transfer { tx := (0x5F, 0xFF), rxLen := 2, len := 2, speedHz := some 10000000, delayUs := 0,
                   bitsPerWord := some 8 } 2] := rfl
/-- E3: OPEN answers `Fail`. -/
theorem test_open_fails_in_init :
    (after (.init InitImage.defaults) (fresh [no])).trace = [.openBus Config.devicePath none] := rfl
/-- A receive buffer one byte longer than the default (00_scope.md R8, 20_memory.md R37): the descriptor names its length, and
offset 3 is outside it. -/
theorem test_longer_receive_buffer :
    let s := after .transfer { ready [yes 2] with rxExtra := 1 }
    s.trace.getLast? = some (.transfer { tx := (0xB0, 0x00), rxLen := 3, len := 2, speedHz := some 10000000, delayUs := 0,
                                         bitsPerWord := some 8 } 2) ∧
      memRead .rx 3 s = none ∧ memRead .tx 2 s = none := by decide
theorem test_open : (after .openBus (fresh [yes 0])).handle = some 7 := by decide
theorem test_wr_mode : (after .wrMode (fresh [yes 0])).trace = [.wrMode 0 true] := by decide
/-- L2-T2: the confirmed mode is stored, not the requested one. -/
theorem test_rd_mode :
    let s := after .rdMode { fresh [yes 0] with cfgMode := 3 }
    s.busMode = some 0 ∧ s.cfgMode = 3 := by decide
theorem test_wr_bpw_fails :
    let s := after .wrBpw (midway [no])
    s.lifecycle = .uninit ∧ s.replies = [.ok, .error .setBitsPerWordFailed] ∧ s.handle = none := by decide
theorem test_rd_bpw : (after .rdBpw (fresh [yes 16])).busBpw = some 16 := by decide
theorem test_wr_speed : (after .wrSpeed (fresh [yes 0])).trace = [.wrSpeed 10000000 true] := by decide
/-- L2-T2: a confirmed speed above the ceiling is stored unchanged. -/
theorem test_rd_speed : (after .rdSpeed (fresh [yes 12000000])).busSpeed = some 12000000 := by decide
/-- TRANSFER sends what stands in `TX`. -/
theorem test_transfer :
    (after .transfer { ready [yes 1] with tx := [(0, 0xB1), (1, 0x23)] }).trace = initTrace ++
      [.transfer { tx := (0xB1, 0x23), rxLen := 2, len := 2, speedHz := some 10000000, delayUs := 0,
                   bitsPerWord := some 8 } 1] := rfl
theorem test_release :
    after .release (ready []) = { ready [] with handle := none, trace := initTrace ++ [.release] } ∧
      after .release (fresh []) = fresh [] := ⟨rfl, rfl⟩

/-! ### Steps -/

theorem test_step_waits : step State.reset = .next State.reset := rfl
theorem test_step_runs_a_word :
    (stepped ((fresh []).withFetchWord 96 0x000000000000000000000000)).replies = [.ok] := by decide
/-- L2-D1: `SETV 0` with a reserved bit set, in UNINIT: the refusal comes first. -/
theorem test_step_refuses_before_it_faults :
    let s := stepped ((fresh []).withFetchWord 96 0x800000000000000000010000)
    s.refused.map RefusalReason.text = ["reserved operand bits"] ∧ s.fault = [] := by decide
theorem test_step_faults :
    (stepped ((fresh []).withFetchWord 96 0x800000000000000000000000)).fault.map UsageFault.text =
      ["SETV before READY"] := by decide
theorem test_step_stops_at_a_code_never_issued :
    step ((fresh []).withFetchWord 8 0xA) = .refused .requestCodeNeverIssued := rfl
theorem test_mark_outlives_a_refused_reset :
    (stepped { ready [] with inputs := [.reset, .secondHost] }).refused.map RefusalReason.text =
      ["reset while handle valid"] := by decide

/-! ### Witnesses: the hypotheses of each statement, met together -/

theorem witness_reset_taken :
    { closed with inputs := [.reset] }.inputs = .reset :: [] ∧ closed.handle = none := by decide
theorem witness_reset_refused :
    { ready [] with inputs := [.reset] }.inputs = .reset :: [] ∧ (ready []).handle ≠ none := by decide
theorem witness_second_host :
    let s := { ready [] with inputs := [.secondHost] }
    s.inputs = .secondHost :: [] ∧ s.fault = [] ∧ s.refused = [] := by decide
theorem witness_marked_by_fault :
    let s := { ready [] with inputs := [.word (.host 0)], fault := [.initWhileReady] }
    s.inputs = .word (.host 0) :: [] ∧ s.fault ≠ [] ∧ s.refused = [] := by decide
theorem witness_marked_by_refusal :
    let s := { ready [] with inputs := [.word (.host 0)], refused := [.secondHost] }
    s.inputs = .word (.host 0) :: [] ∧ s.fault = [] ∧ s.refused ≠ [] := by decide

/-- A READY block to which SETV 10000 is presented. -/
def readySetv (status : BitVec 32) : State :=
  (ready [yes status]).withFetchWord 96 0x800000000000000000002710

theorem witness_trace_grows :
    step (readySetv 2) = .next (stepped (readySetv 2)) ∧ (readySetv 2).inputs.head? ≠ some .reset :=
  ⟨rfl, by decide⟩
theorem witness_configuration_ready :
    step (readySetv 2) = .next (stepped (readySetv 2)) ∧ (readySetv 2).inputs.head? ≠ some .reset ∧
      (readySetv 2).lifecycle = .ready := ⟨rfl, by decide, rfl⟩
theorem witness_configuration_closed :
    let s := closed.withFetchWord 96 0xC00000000000000000000000
    step s = .next (stepped s) ∧ s.inputs.head? ≠ some .reset ∧ s.lifecycle = .closed := ⟨rfl, by decide, rfl⟩
theorem witness_frame_changes_by_transfer :
    (ready [yes 2]).buffersWf = true ∧ exec (.setv 1) (ready [yes 2]) = .next (after (.setv 1) (ready [yes 2])) ∧
      (after (.setv 1) (ready [yes 2])).frame ≠ (ready [yes 2]).frame := ⟨rfl, rfl, by decide⟩
theorem witness_frame_lost_by_failed_init :
    (midway [no]).buffersWf = true ∧ exec .rdMode (midway [no]) = .next (after .rdMode (midway [no])) ∧
      (after .rdMode (midway [no])).frame ≠ (midway [no]).frame := ⟨rfl, rfl, by decide⟩
theorem witness_buffers : (readySetv 2).buffersWf = true ∧ step (readySetv 2) = .next (stepped (readySetv 2)) :=
  ⟨rfl, rfl⟩
theorem witness_never_read : exec (.setv 1) (ready [yes 2]) = .next (after (.setv 1) (ready [yes 2])) := rfl
theorem witness_handle_number :
    (ready []).handle = some 7 ∧ exec .close (ready []) = .next (after .close (ready [])) := ⟨rfl, rfl⟩
theorem witness_host_word : decodeHost 0x800000000000000000000FFF = some (.setv 4095) := by decide
theorem witness_value_in_range : (4095 : BitVec 16).toNat ≤ 4095 := by decide
theorem witness_value_out_of_range : 4095 < (4096 : BitVec 16).toNat := by decide
theorem witness_fields_differ : Channel.b ≠ Channel.a ∧ Gain.x2 ≠ Gain.x1 := by decide
theorem witness_open_accepted : openAnswer ((fresh [yes 0]).answer 0) = some 7 := by decide
theorem witness_request_accepted : ((fresh [yes 0]).answer 0).accept = true := by decide
theorem witness_rejected_inside :
    (midway [no]).lifecycle = .initializing ∧ ((midway [no]).answer 0).accept = false := by decide
theorem witness_rejected_inside_without_handle :
    let s := { fresh [no] with lifecycle := .initializing }
    s.lifecycle = .initializing ∧ (s.answer 0).accept = false ∧ s.handle = none := by decide
theorem witness_rejected_outside :
    (ready [no]).lifecycle ≠ .initializing ∧ ((ready [no]).answer 0).accept = false := by decide
theorem witness_release : (ready []).handle ≠ none ∧ (fresh []).handle = none := by decide
theorem witness_transfer_taken :
    (ready [yes 0]).buffersWf = true ∧ (ready [yes 0]).busBpw = some 8 ∧ 0 ≤ ((ready [yes 0]).answer 0).word.toInt :=
  ⟨rfl, rfl, by decide⟩
theorem witness_transfer_failed :
    (ready [yes (-1)]).buffersWf = true ∧ (ready [yes (-1)]).busBpw = some 8 ∧
      ((ready [yes (-1)]).answer 0).word.toInt < 0 ∧ (ready [yes (-1)]).lifecycle ≠ .initializing :=
  ⟨rfl, rfl, by decide, by decide⟩
theorem witness_other_word_size :
    let s := { ready [yes 2] with busBpw := some 16 }
    s.buffersWf = true ∧ s.busBpw ≠ some 8 ∧ s.lifecycle = .ready := ⟨rfl, by decide, rfl⟩
theorem witness_no_word_size : (fresh []).buffersWf = true ∧ (fresh []).busBpw ≠ some 8 := ⟨rfl, by decide⟩
theorem witness_channel_bug : { ready [] with channelBug := true }.channelBug = true := rfl
theorem witness_no_channel_bug : (ready [yes 0]).channelBug = false := rfl
theorem witness_transmission_mode :
    ((ready []).transmission 0xB800).mode = some 0 ∧
      (State.transmission { ready [] with busMode := some 3 } 0xB800).mode = some 3 := ⟨rfl, rfl⟩
theorem witness_step_runs :
    (readySetv 2).inputs = .word (.host 0x800000000000000000002710) :: [] ∧ (readySetv 2).fault = [] ∧
      (readySetv 2).refused = [] ∧ decode (.host 0x800000000000000000002710) = some (.setv 10000) := by decide
theorem witness_reserved_bits :
    let s := { ready [] with inputs := [.word (.host 0x800000000000000000010000)] }
    s.inputs = .word (.host 0x800000000000000000010000) :: [] ∧ s.fault = [] ∧ s.refused = [] ∧
      hostWordWellFormed 0x800000000000000000010000 = false := by decide
theorem witness_code_zero :
    let s := { fresh [] with inputs := [.word (.request 0)] }
    s.inputs = .word (.request 0) :: [] ∧ s.fault = [] ∧ s.refused = [] ∧ (0 : RequestCode).toNat = 0 := by decide
theorem witness_code_ten :
    let s := { fresh [] with inputs := [.word (.request 10)] }
    s.inputs = .word (.request 10) :: [] ∧ s.fault = [] ∧ s.refused = [] ∧ 10 ≤ (10 : RequestCode).toNat := by decide
theorem witness_lifecycles :
    (fresh []).lifecycle = .uninit ∧ (ready []).lifecycle = .ready ∧ closed.lifecycle = .closed ∧
      (midway []).lifecycle = .initializing := by decide

/-- An INIT whose eight requests the platform takes, with the word size and the status given. -/
theorem witness_init_succeeds :
    let s := fresh (initDraws 0 8 10000000 0)
    s.buffersWf = true ∧ s.lifecycle = .uninit ∧ (∀ k, k < 7 → (s.answer k).accept = true) ∧
      (s.answer 4).word.setWidth 8 = 8#8 ∧ 0 ≤ (s.answer 7).word.toInt :=
  ⟨rfl, rfl, by decide, by decide, by decide⟩
theorem witness_init_frame_fails :
    let s := fresh (initDraws 0 8 10000000 (-1))
    s.buffersWf = true ∧ s.lifecycle = .uninit ∧ s.handle = none ∧ (∀ k, k < 7 → (s.answer k).accept = true) ∧
      (s.answer 4).word.setWidth 8 = 8#8 ∧ (s.answer 7).word.toInt < 0 :=
  ⟨rfl, rfl, rfl, by decide, by decide, by decide⟩
theorem witness_init_other_word_size :
    let s := fresh (initDraws 0 16 10000000 2)
    s.buffersWf = true ∧ s.lifecycle = .uninit ∧ (∀ k, k < 7 → (s.answer k).accept = true) ∧
      (s.answer 4).word.setWidth 8 ≠ 8#8 := ⟨rfl, rfl, by decide, by decide⟩
theorem witness_init_first_rejected :
    let s := fresh [no]
    s.lifecycle = .uninit ∧ s.handle = none ∧ 0 < 7 ∧ (∀ j, j < 0 → (s.answer j).accept = true) ∧
      (s.answer 0).accept = false := ⟨rfl, rfl, by decide, by decide, by decide⟩
theorem witness_init_last_rejected :
    let s := fresh [yes 0, yes 0, yes 0, yes 0, yes 8, yes 0, no]
    s.lifecycle = .uninit ∧ s.handle = none ∧ 6 < 7 ∧ (∀ j, j < 6 → (s.answer j).accept = true) ∧
      (s.answer 6).accept = false := ⟨rfl, rfl, by decide, by decide, by decide⟩
theorem witness_setv_taken :
    (ready [yes 0]).buffersWf = true ∧ (ready [yes 0]).lifecycle = .ready ∧ (ready [yes 0]).busBpw = some 8 ∧
      0 ≤ ((ready [yes 0]).answer 0).word.toInt := ⟨rfl, rfl, rfl, by decide⟩
theorem witness_setv_failed :
    (ready [yes (-1)]).buffersWf = true ∧ (ready [yes (-1)]).lifecycle = .ready ∧
      (ready [yes (-1)]).busBpw = some 8 ∧ ((ready [yes (-1)]).answer 0).word.toInt < 0 :=
  ⟨rfl, rfl, rfl, by decide⟩
theorem witness_close :
    (ready []).lifecycle = .ready ∧ (ready []).handle ≠ none ∧ closed.lifecycle = .closed := by decide
theorem witness_host_command_result :
    decodeHost 0 = some .nop ∧ exec .nop (ready []) = .next (after .nop (ready [])) := ⟨by decide, rfl⟩
theorem witness_host_command_mark :
    decodeHost 0xC00000000000000000000000 = some .close ∧ exec .close (fresh []) = .next (after .close (fresh [])) :=
  ⟨by decide, rfl⟩
theorem witness_setv_delivers :
    (ready [yes 0]).buffersWf = true ∧ (ready [yes 0]).lifecycle = .ready ∧ (ready [yes 0]).busBpw = some 8 ∧
      exec (.setv 1) (ready [yes 0]) = .next (after (.setv 1) (ready [yes 0])) := ⟨rfl, rfl, rfl, rfl⟩
theorem witness_setv_delivers_unknown :
    (ready [yes (-1)]).buffersWf = true ∧ (ready [yes (-1)]).lifecycle = .ready ∧
      (ready [yes (-1)]).busBpw = some 8 ∧
      exec (.setv 1) (ready [yes (-1)]) = .next (after (.setv 1) (ready [yes (-1)])) := ⟨rfl, rfl, rfl, rfl⟩

/-! Legal states on the bus protocol, one for each transition. -/

theorem witness_legal_ready : (readySetv 2).Legal where
  hostDriven := by decide
  speed := by decide
  uninit := nofun
  initializing := nofun
  ready := by decide
  closed := nofun
  nibble := by
    intro F h
    cases h
    decide

theorem witness_on_protocol_ready : (readySetv 2).OnProtocol where
  phase := rfl
  lawful := by
    intro e he
    fin_cases he <;> (simp [Event.lawful, Config.maxSpeedHz, Config.frameBytes]; try rfl)
  wired := rfl
  modes := by
    intro w hw
    cases List.mem_singleton.1 hw
    rfl

theorem witness_protocol_step :
    (readySetv 2).Legal ∧ (readySetv 2).OnProtocol ∧ (readySetv 2).buffersWf = true ∧
      step (readySetv 2) = .next (stepped (readySetv 2)) :=
  ⟨witness_legal_ready, witness_on_protocol_ready, rfl, rfl⟩

/-- A block in UNINIT to which a default INIT is presented. -/
def freshInit (bpw : BitVec 32) : State :=
  (fresh (initDraws 0 bpw 10000000 2)).withFetchWord 96 0x400000000098968008080000

theorem witness_legal_uninit : (freshInit 8).Legal where
  hostDriven := by decide
  speed := by decide
  uninit := fun _ => ⟨by unfold State.cfgAtReset; decide, by decide⟩
  initializing := nofun
  ready := nofun
  closed := nofun
  nibble := nofun

theorem witness_init_transitions :
    step (freshInit 8) = .next (stepped (freshInit 8)) ∧ (stepped (freshInit 8)).lifecycle = .ready ∧
      step (freshInit 16) = .next (stepped (freshInit 16)) ∧ (stepped (freshInit 16)).lifecycle = .initializing :=
  ⟨rfl, by decide, rfl, by decide⟩

/-- A block in CLOSED that is reset. -/
def closedReset : State := { closed with inputs := [.reset] }

theorem witness_legal_closed : closedReset.Legal where
  hostDriven := by decide
  speed := by decide
  uninit := nofun
  initializing := nofun
  ready := nofun
  closed := by decide
  nibble := by
    intro F h
    cases h
    decide

theorem witness_close_and_reset_transitions :
    (after .close (ready [])).lifecycle = .closed ∧ step closedReset = .next (stepped closedReset) ∧
      (stepped closedReset).lifecycle = .uninit := ⟨by decide, rfl, by decide⟩

end Sys2Proof.Tests
end

section
/-! The values of the registers after reset (10_state.md R12, R36). -/

namespace Sys2Proof.Machine

/-- S1 to S9: the configuration defaults (10_state.md R17 to R25). -/
theorem State.reset_cfgAtReset : State.reset.cfgAtReset :=
  ⟨rfl, rfl, rfl, rfl, rfl, rfl, rfl, rfl, rfl⟩

/-- S10 to S14: nothing is confirmed, no handle is held and no frame is kept (10_state.md R27 to R31). -/
theorem State.reset_transport_unset :
    State.reset.busMode = none ∧ State.reset.busBpw = none ∧ State.reset.busSpeed = none ∧
      State.reset.handle = none ∧ State.reset.frame = none :=
  ⟨rfl, rfl, rfl, rfl, rfl⟩

/-- S16 and S17: the reset state carries no mark (10_state.md R34, R35). -/
theorem State.reset_successful : State.reset.successful := ⟨rfl, rfl⟩

/-- Settles O1: the table of R12 read by groups of registers, S0 and S15 standing alone. -/
theorem resetHoldsTheTableOfResetValues : Obligations.ResetHoldsTheTableOfResetValues := by
  unfold Obligations.ResetHoldsTheTableOfResetValues
  obtain ⟨channel, buffered, gain, active, initValue, mode, bpw, speed, delay⟩ := State.reset_cfgAtReset
  obtain ⟨busMode, busBpw, busSpeed, handle, frame⟩ := State.reset_transport_unset
  obtain ⟨fault, refused⟩ := State.reset_successful
  have lifecycle : State.reset.lifecycle = .uninit := rfl
  have trace : State.reset.trace = [] := rfl
  exact ⟨lifecycle, channel, buffered, gain, active, initValue, mode, bpw, speed, delay,
    busMode, busBpw, busSpeed, handle, frame, trace, fault, refused⟩

end Sys2Proof.Machine
end

section
/-! The wire frame as four control bits over a payload: what the encoder builds and what reading it back gives
(30_encoding.md R53, R54, 40_register_encoder.md R59 to R64). -/

namespace Sys2Proof.Machine

/-- The four flags of a frame, bit 15 first. -/
def controlNibble (channelA buffered gainX1 active : Bool) : BitVec 4 :=
  BitVec.ofBool channelA ++ BitVec.ofBool buffered ++ BitVec.ofBool gainX1 ++ BitVec.ofBool active

theorem controlNibble_or (a b c d a' b' c' d' : Bool) :
    controlNibble a b c d ||| controlNibble a' b' c' d' =
      controlNibble (a || a') (b || b') (c || c') (d || d') := by
  unfold controlNibble
  iterate 3 erw [BitVec.or_append]
  simp only [BitVec.ofBool_or_ofBool]

theorem controlNibble_getLsbD (a b c d : Bool) :
    (controlNibble a b c d).getLsbD 3 = a ∧ (controlNibble a b c d).getLsbD 2 = b ∧
      (controlNibble a b c d).getLsbD 1 = c ∧ (controlNibble a b c d).getLsbD 0 = d := by
  simp only [controlNibble, BitVec.getLsbD_append, BitVec.getLsbD_ofBool]
  simp

theorem frameWord_eq_append (f : FrameFields) :
    frameWord f = controlNibble (f.channel == .a) f.buffered (f.gain == .x1) f.active ++ f.value := rfl

/-! ### The payload -/

/-- `F[11:0]` is the low nibble of byte 0 over byte 1 (30_encoding.md R54). -/
theorem payload_eq_bytes (F : FrameWord) :
    F.extractLsb' 0 12 = (F.extractLsb' 8 8 &&& 0x0F).setWidth 4 ++ F.extractLsb' 0 8 := by
  have lowNibble : (F.extractLsb' 8 8 &&& 0x0F).setWidth 4 = F.extractLsb' 8 4 := by
    rw [BitVec.setWidth_and, show (0x0F : BitVec 8).setWidth 4 = BitVec.allOnes 4 from rfl, BitVec.and_allOnes,
      BitVec.setWidth_extractLsb'_of_le (by omega)]
  rw [lowNibble]
  exact (BitVec.extractLsb'_append_extractLsb'_eq_extractLsb' (len₁ := 8) (len₂ := 4) rfl).symm

/-- The clamp is the minimum with 4095; 12 bits hold it (40_register_encoder.md R59). -/
@[simp] theorem clampValue_toNat (v : BitVec 16) : (clampValue v).toNat = min v.toNat 4095 := by
  have fits : min v.toNat Config.valueMax < 2 ^ 12 := Nat.lt_succ_of_le (Nat.min_le_right _ _)
  rw [clampValue, BitVec.toNat_ofNat, Nat.mod_eq_of_lt fits, Config.valueMax]

/-! ### The encoder -/

/-- The channel that stands in the frame: B for both channels under `CHANNEL_BUG` (40_register_encoder.md R67). -/
def wireChannel (bug : Bool) (ch : Channel) : Channel := if bug then .b else ch

theorem chBit_eq_controlNibble (bug : Bool) (ch : Channel) :
    chBit bug ch = controlNibble (wireChannel bug ch == .a) false false false ++ 0#4 := by
  cases bug <;> cases ch <;> rfl

theorem bufBit_eq_controlNibble (buffered : Bool) :
    bufBit buffered = controlNibble false buffered false false ++ 0#4 := by
  cases buffered <;> rfl

theorem gainMask_eq_controlNibble (g : Gain) :
    gainMask g = controlNibble false false (g == .x1) false ++ 0#4 := by
  cases g <;> rfl

theorem actBit_eq_controlNibble (active : Bool) :
    actBit active = controlNibble false false false active ++ 0#4 := by
  cases active <;> rfl

/-- Two control bytes combine in their high nibbles. -/
theorem highNibble_or (m n : BitVec 4) : (m ++ 0#4 : BitVec 8) ||| (n ++ 0#4) = (m ||| n) ++ 0#4 :=
  BitVec.or_append

/-- Each mask of R60 to R63 fills its own bit of the high nibble. -/
theorem masks_eq_controlNibble (bug : Bool) (ch : Channel) (buffered : Bool) (g : Gain) (active : Bool) :
    chBit bug ch ||| bufBit buffered ||| gainMask g ||| actBit active =
      controlNibble (wireChannel bug ch == .a) buffered (g == .x1) active ++ 0#4 := by
  rw [chBit_eq_controlNibble, bufBit_eq_controlNibble, gainMask_eq_controlNibble, actBit_eq_controlNibble]
  simp only [highNibble_or, controlNibble_or, Bool.or_false, Bool.false_or]

/-- The two bytes of R64 together: the control nibble over the 12 bits of the payload. -/
theorem bytes_append (n : BitVec 4) (v : BitVec 12) :
    (n ++ 0#4 ||| (v >>> 8).setWidth 8) ++ v.setWidth 8 = n ++ v := by
  have high : (v >>> 8).setWidth 8 = 0#4 ++ v.extractLsb' 8 4 := by
    ext i hi
    rw [BitVec.getElem_append]
    by_cases low : i < 4
    · simp [low]
    · simp [low, BitVec.getLsbD_of_ge v (8 + i) (by omega)]
  have merged : n ++ 0#4 ||| (v >>> 8).setWidth 8 = n ++ v.extractLsb' 8 4 := by
    rw [high, BitVec.or_append, BitVec.or_zero, BitVec.zero_or]
  have low : v.setWidth 8 = v.extractLsb' 0 8 := BitVec.setWidth_eq_extractLsb' (by omega)
  calc (n ++ 0#4 ||| (v >>> 8).setWidth 8) ++ v.setWidth 8
      = n ++ v.extractLsb' 8 4 ++ v.extractLsb' 0 8 := by rw [merged, low]
    _ = n ++ (v.extractLsb' 8 4 ++ v.extractLsb' 0 8) := BitVec.append_assoc
    _ = n ++ v := congrArg (n ++ ·) BitVec.extractLsb'_append_extractLsb'

/-- The encoder's frame is the frame of its configuration and of the clamped value. -/
theorem encodeFrame_eq_frameWord (bug : Bool) (ch : Channel) (buffered : Bool) (g : Gain) (active : Bool)
    (value : BitVec 16) :
    encodeFrame bug ch buffered g active value =
      frameWord { channel := wireChannel bug ch, buffered, gain := g, active, value := clampValue value } := by
  rw [encodeFrame, masks_eq_controlNibble, bytes_append, frameWord_eq_append]

/-! ### Reading back -/

/-- Bits 15 to 12 of a frame are its flags (30_encoding.md R53). -/
theorem frameWord_flags (f : FrameFields) :
    (frameWord f).getLsbD 15 = (f.channel == .a) ∧ (frameWord f).getLsbD 14 = f.buffered ∧
      (frameWord f).getLsbD 13 = (f.gain == .x1) ∧ (frameWord f).getLsbD 12 = f.active := by
  simp only [frameWord_eq_append, BitVec.getLsbD_append]
  exact controlNibble_getLsbD _ _ _ _

theorem frameWord_payload (f : FrameFields) : (frameWord f).extractLsb' 0 12 = f.value :=
  BitVec.extractLsb'_append_eq_right

/-- Reading a frame back is the inverse of putting it together (30_encoding.md R53, R54). -/
@[simp] theorem decodeFrame_frameWord (f : FrameFields) : decodeFrame (frameWord f) = f := by
  obtain ⟨channel, buffered, gain, active⟩ := frameWord_flags f
  have sameChannel : (if f.channel == .a then Channel.a else .b) = f.channel := by cases f.channel <;> rfl
  have sameGain : (if f.gain == .x1 then Gain.x1 else .x2) = f.gain := by cases f.gain <;> rfl
  rw [decodeFrame, channel, buffered, gain, active, frameWord_payload, sameChannel, sameGain]

theorem decodeFrame_encodeFrame (bug : Bool) (ch : Channel) (buffered : Bool) (g : Gain) (active : Bool)
    (value : BitVec 16) :
    decodeFrame (encodeFrame bug ch buffered g active value) =
      { channel := wireChannel bug ch, buffered, gain := g, active, value := clampValue value } := by
  rw [encodeFrame_eq_frameWord, decodeFrame_frameWord]

/-- Settles O18: the payload is the two bytes' twelve low bits, and the clamp keeps a value in range. -/
theorem frameFieldsReadBack : Obligations.FrameFieldsReadBack := by
  unfold Obligations.FrameFieldsReadBack
  constructor
  · intro F
    rw [decodeFrame, payload_eq_bytes]
  · intro bug ch buffered g active value inRange
    rw [decodeFrame_encodeFrame, clampValue_toNat, Nat.min_eq_left inRange]

end Sys2Proof.Machine
end

section
/-! What stands in an encoded frame: the clamped value below, the configuration above
(40_register_encoder.md R59 to R64). -/

namespace Sys2Proof.Machine

/-- The clamped value is `F[11:0]`, under either reading of the channel bit (40_register_encoder.md R59, R67). -/
theorem encodeFrame_payload (bug : Bool) (ch : Channel) (buffered : Bool) (g : Gain) (active : Bool)
    (value : BitVec 16) :
    (encodeFrame bug ch buffered g active value).extractLsb' 0 12 = clampValue value := by
  rw [encodeFrame_eq_frameWord, frameWord_payload]

/-- `F[15:12]` are the configuration; the gain bit stands for X1 (40_register_encoder.md R60 to R63). -/
theorem encodeFrame_flags (bug : Bool) (ch : Channel) (buffered : Bool) (g : Gain) (active : Bool)
    (value : BitVec 16) :
    let F := encodeFrame bug ch buffered g active value
    F.getLsbD 15 = (wireChannel bug ch == .a) ∧ F.getLsbD 14 = buffered ∧
      F.getLsbD 13 = (g == .x1) ∧ F.getLsbD 12 = active := by
  rw [encodeFrame_eq_frameWord]
  exact frameWord_flags _

/-- Without `CHANNEL_BUG` the frame carries the configured channel (40_register_encoder.md R60). -/
@[simp] theorem wireChannel_false (ch : Channel) : wireChannel false ch = ch := rfl

/-- Settles O19: the clamp's number, and its place in the frame. -/
theorem valueClampSaturates : Obligations.ValueClampSaturates := by
  unfold Obligations.ValueClampSaturates
  intro value
  refine ⟨clampValue_toNat value, ?_⟩
  intro bug ch buffered g active
  exact encodeFrame_payload bug ch buffered g active value

/-- Settles O20: the encoder's flags, its payload and the frame read back, at `CHANNEL_BUG = false`. -/
theorem encodedFrameHoldsConfigurationAndClampedValue :
    Obligations.EncodedFrameHoldsConfigurationAndClampedValue := by
  unfold Obligations.EncodedFrameHoldsConfigurationAndClampedValue
  intro ch buffered g active value
  obtain ⟨channelBit, bufferedBit, gainBit, activeBit⟩ := encodeFrame_flags false ch buffered g active value
  have payload : ((encodeFrame false ch buffered g active value).extractLsb' 0 12).toNat = min value.toNat 4095 := by
    rw [encodeFrame_payload, clampValue_toNat]
  have readBack := decodeFrame_encodeFrame false ch buffered g active value
  rw [wireChannel_false] at channelBit readBack
  refine ⟨_, rfl, ?channel, bufferedBit, ?gain, activeBit, payload, readBack⟩
  case channel => rw [channelBit, beq_iff_eq]
  case gain => rw [gainBit, beq_iff_eq]

end Sys2Proof.Machine
end

section
/-! The speed clamp (41_transport_lifecycle.md R69). -/

namespace Sys2Proof.Machine

/-- The clamp is the minimum with 10,000,000; 32 bits hold it (41_transport_lifecycle.md R69). -/
@[simp] theorem clampSpeed_toNat (hz : BitVec 32) : (clampSpeed hz).toNat = min hz.toNat 10000000 := by
  have fits : min hz.toNat Config.maxSpeedHz < 2 ^ 32 := (Nat.min_le_left _ _).trans_lt hz.isLt
  rw [clampSpeed, BitVec.toNat_ofNat, Nat.mod_eq_of_lt fits, Config.maxSpeedHz]

/-- Settles O23: the clamp's number, for every speed. -/
theorem speedClampSaturates : Obligations.SpeedClampSaturates := by
  unfold Obligations.SpeedClampSaturates
  exact clampSpeed_toNat

end Sys2Proof.Machine
end

section
/-! The sign of a TRANSFER's status (42_transmit.md R87). -/

namespace Sys2Proof.Machine

/-- A status is read as signed, and fails exactly below 0 (42_transmit.md R87). -/
theorem statusFailed_iff (st : Status) : statusFailed st = true ↔ st.toInt < 0 := BitVec.slt_iff_toInt_lt

/-- Settles O35: at word size 8 the status decides between `transmit_fail` and `transmit_ok`, which exclude each other. -/
theorem statusSignDecidesTransmit : Obligations.StatusSignDecidesTransmit := by
  unfold Obligations.StatusSignDecidesTransmit
  intro F s wordSize8
  rw [← not_lt, ← statusFailed_iff]
  cases outcome : statusFailed (s.answer 0).word with
  | true => simp [transmit_fail s F wordSize8 outcome]
  | false => simp [transmit_ok s F wordSize8 outcome]

end Sys2Proof.Machine
end

section
/-! NOP: the word that spells it and what it does (30_encoding.md R49, R50, 43_driver.md R91). -/

namespace Sys2Proof.Machine

/-- `op` 0 with its reserved bits zero selects NOP (30_encoding.md R49, R50). -/
theorem decodeHost_nop {w : HostWord} (wellFormed : hostWordWellFormed w = true) (op : w.extractLsb' 94 2 = 0#2) :
    decodeHost w = some .nop := by
  rw [decodeHost, if_pos wellFormed, if_pos op]

/-- NOP is `return Ok` (43_driver.md R91). -/
theorem exec_nop (s : State) : exec .nop s = .next (s.reply .ok) := rfl

/-- Settles O43: the word 0 has `op` 0 and no reserved bit set, and NOP's whole effect is the reply `Ok`. -/
theorem nopReturnsOkAndChangesNothing : Obligations.NopReturnsOkAndChangesNothing := by
  unfold Obligations.NopReturnsOkAndChangesNothing
  constructor
  · have wellFormed : hostWordWellFormed 0 = true := by decide
    have op : (0 : HostWord).extractLsb' 94 2 = 0#2 := by decide
    exact decodeHost_nop wellFormed op
  · intro s
    rw [exec_nop, State.reply]

end Sys2Proof.Machine
end

section
/-! Every instruction as a row of named updates: two states that look alike to the block run the same updates, and
what each update keeps, every instruction keeps. -/

namespace Sys2Proof.Machine

/-! ### The named updates -/

/-- The updates that the meanings of the instructions are put together from. -/
inductive Update where
  | lifecycle (l : Lifecycle)
  | handle (h : Option Handle)
  | busMode (m : Option (BitVec 2))
  | busBpw (b : Option (BitVec 8))
  | busSpeed (v : Option (BitVec 32))
  | frame (F : Option FrameWord)
  | latch (c : InitImage)
  | rollback
  | closeHandle
  | issue (e : Event)
  | putFrame (F : FrameWord)
  | sent (F : FrameWord)
  | reply (r : ResultCode)
  | usageFault (f : UsageFault)
  | refuse (r : RefusalReason)

/-- The state after an update. -/
def Update.apply : Update → State → State
  | .lifecycle l, s => { s with lifecycle := l }
  | .handle h, s => { s with handle := h }
  | .busMode m, s => { s with busMode := m }
  | .busBpw b, s => { s with busBpw := b }
  | .busSpeed v, s => { s with busSpeed := v }
  | .frame F, s => { s with frame := F }
  | .latch c, s => s.latch c
  | .rollback, s => s.rollback
  | .closeHandle, s => s.closeHandle
  | .issue e, s => s.issue e
  | .putFrame F, s => s.putFrame F
  | .sent F, s => s.sent F
  | .reply r, s => s.reply r
  | .usageFault f, s => s.usageFault f
  | .refuse r, s => s.refuse r

/-! ### States that look alike -/

/-- The two states agree in everything that decides what an instruction does: the lifecycle state, the registers it
reads, the frame in `TX`, the next answer, `CHANNEL_BUG`. -/
structure State.LooksLike (s s' : State) : Prop where
  lifecycle : s'.lifecycle = s.lifecycle
  cfgMode : s'.cfgMode = s.cfgMode
  cfgBpw : s'.cfgBpw = s.cfgBpw
  cfgSpeed : s'.cfgSpeed = s.cfgSpeed
  cfgInitValue : s'.cfgInitValue = s.cfgInitValue
  busBpw : s'.busBpw = s.busBpw
  tx : s'.tx = s.tx
  channelBug : s'.channelBug = s.channelBug
  answer : s'.answer 0 = s.answer 0
  encode : ∀ v, s'.encode v = s.encode v

theorem State.LooksLike.refl (s : State) : s.LooksLike s where
  lifecycle := rfl
  cfgMode := rfl
  cfgBpw := rfl
  cfgSpeed := rfl
  cfgInitValue := rfl
  busBpw := rfl
  tx := rfl
  channelBug := rfl
  answer := rfl
  encode _ := rfl

/-- A relation between states that look alike, which every update keeps. -/
structure Simulation (R : State → State → Prop) : Prop where
  looksLike : ∀ {s s'}, R s s' → s.LooksLike s'
  apply : ∀ (u : Update) {s s'}, R s s' → R (u.apply s) (u.apply s')

/-- Two attempts that end alike, in states so related. -/
inductive Attempt.Alike (R : State → State → Prop) : Attempt → Attempt → Prop where
  | ok {s s'} : R s s' → Alike R (.ok s) (.ok s')
  | error (e) {s s'} : R s s' → Alike R (.error e s) (.error e s')
  | refused {s s'} : R s s' → Alike R (.refused s) (.refused s')

theorem Attempt.Alike.andThen {R : State → State → Prop} {a a' : Attempt} {f : State → Attempt} (h : a.Alike R a')
    (hf : ∀ {t t'}, R t t' → (f t).Alike R (f t')) : (a.andThen f).Alike R (a'.andThen f) := by
  cases h with
  | ok h => exact hf h
  | error e h => exact .error e h
  | refused h => exact .refused h

/-- Two outcomes that are alike: next states so related, or the same stop. -/
inductive OutcomesAlike (R : State → State → Prop) :
    Host.Outcome State Fault Refusal → Host.Outcome State Fault Refusal → Prop where
  | next {s s'} : R s s' → OutcomesAlike R (.next s) (.next s')
  | fault (r) : OutcomesAlike R (.fault r) (.fault r)

namespace Simulation

variable {R : State → State → Prop} {s s' : State}

theorem raise (hR : Simulation R) (e : TransportError) (h : R s s') : R (s.raise e) (s'.raise e) := by
  have lifecycle := (hR.looksLike h).lifecycle
  by_cases inside : s.lifecycle = .initializing
  · rw [s.raise_of_initializing e inside, s'.raise_of_initializing e (lifecycle.trans inside)]
    exact hR.apply (.reply _) (hR.apply .rollback (hR.apply .closeHandle h))
  · rw [s.raise_of_not_initializing e inside, s'.raise_of_not_initializing e (lifecycle ▸ inside)]
    exact hR.apply (.reply _) h

theorem settle (hR : Simulation R) {a a' : Attempt} (h : a.Alike R a') : R a.settle a'.settle := by
  cases h with
  | ok h => exact h
  | error e h => exact hR.raise e h
  | refused h => exact h

theorem requestOpen (hR : Simulation R) (h : R s s') : (requestOpen s).Alike R (requestOpen s') := by
  rw [Machine.requestOpen, Machine.requestOpen, (hR.looksLike h).answer]
  cases openAnswer (s.answer 0) with
  | none => exact .error _ (hR.apply (.issue _) h)
  | some k => exact .ok (hR.apply (.handle (some k)) (hR.apply (.issue _) h))

theorem requestWrite (hR : Simulation R) (e : TransportError) (ev : Bool → Event) (h : R s s') :
    (requestWrite e ev s).Alike R (requestWrite e ev s') := by
  rw [Machine.requestWrite, Machine.requestWrite, (hR.looksLike h).answer]
  cases (s.answer 0).accept with
  | true => exact .ok (hR.apply (.issue _) h)
  | false => exact .error e (hR.apply (.issue _) h)

theorem requestWrMode (hR : Simulation R) (h : R s s') : (requestWrMode s).Alike R (requestWrMode s') := by
  rw [Machine.requestWrMode, Machine.requestWrMode, (hR.looksLike h).cfgMode]
  exact hR.requestWrite _ _ h

theorem requestWrBpw (hR : Simulation R) (h : R s s') : (requestWrBpw s).Alike R (requestWrBpw s') := by
  rw [Machine.requestWrBpw, Machine.requestWrBpw, (hR.looksLike h).cfgBpw]
  exact hR.requestWrite _ _ h

theorem requestWrSpeed (hR : Simulation R) (h : R s s') : (requestWrSpeed s).Alike R (requestWrSpeed s') := by
  rw [Machine.requestWrSpeed, Machine.requestWrSpeed, (hR.looksLike h).cfgSpeed]
  exact hR.requestWrite _ _ h

theorem requestRdMode (hR : Simulation R) (h : R s s') : (requestRdMode s).Alike R (requestRdMode s') := by
  rw [Machine.requestRdMode, Machine.requestRdMode, (hR.looksLike h).answer]
  cases readAnswer 2 (s.answer 0) with
  | none => exact .error _ (hR.apply (.issue _) h)
  | some m => exact .ok (hR.apply (.busMode (some m)) (hR.apply (.issue _) h))

theorem requestRdBpw (hR : Simulation R) (h : R s s') : (requestRdBpw s).Alike R (requestRdBpw s') := by
  rw [Machine.requestRdBpw, Machine.requestRdBpw, (hR.looksLike h).answer]
  cases readAnswer 8 (s.answer 0) with
  | none => exact .error _ (hR.apply (.issue _) h)
  | some b => exact .ok (hR.apply (.busBpw (some b)) (hR.apply (.issue _) h))

theorem requestRdSpeed (hR : Simulation R) (h : R s s') : (requestRdSpeed s).Alike R (requestRdSpeed s') := by
  rw [Machine.requestRdSpeed, Machine.requestRdSpeed, (hR.looksLike h).answer]
  cases readAnswer 32 (s.answer 0) with
  | none => exact .error _ (hR.apply (.issue _) h)
  | some v => exact .ok (hR.apply (.busSpeed (some v)) (hR.apply (.issue _) h))

theorem configure (hR : Simulation R) (h : R s s') : (configure s).Alike R (configure s') :=
  (((((hR.requestWrMode h).andThen hR.requestRdMode).andThen hR.requestWrBpw).andThen hR.requestRdBpw).andThen
    hR.requestWrSpeed).andThen hR.requestRdSpeed

theorem transmit (hR : Simulation R) (F : FrameWord) (h : R s s') :
    (transmit F s).Alike R (transmit F s') := by
  have busBpw := (hR.looksLike h).busBpw
  have answer := (hR.looksLike h).answer
  rcases transmit_cases s F with ⟨wordSize, status, taken⟩ | ⟨wordSize, status, failed⟩ | ⟨wordSize, refused⟩
  · rw [taken, transmit_ok s' F (busBpw.trans wordSize) (answer ▸ status)]
    exact .ok (hR.apply (.sent F) h)
  · rw [failed, transmit_fail s' F (busBpw.trans wordSize) (answer ▸ status)]
    exact .error _ (hR.apply (.sent F) h)
  · rw [refused, transmit_refused s' F (busBpw ▸ wordSize)]
    exact .refused (hR.apply (.refuse _) (hR.apply (.putFrame F) h))

theorem transmitValue (hR : Simulation R) (v : BitVec 16) (h : R s s') :
    (transmitValue v s).Alike R (transmitValue v s') := by
  rw [Machine.transmitValue, Machine.transmitValue, (hR.looksLike h).encode]
  exact (hR.transmit _ h).andThen fun h => .ok (hR.apply (.frame _) h)

theorem runInit (hR : Simulation R) (c : InitImage) (h : R s s') : R (runInit c s) (runInit c s') := by
  have attempts : (bringUp (s.latch c)).Alike R (bringUp (s'.latch c)) :=
    ((hR.requestOpen (hR.apply (.latch c) h)).andThen hR.configure).andThen fun {t t'} h => by
      rw [(hR.looksLike h).cfgInitValue]
      exact hR.transmitValue _ h
  rw [Machine.runInit, Machine.runInit]
  generalize bringUp (s.latch c) = a, bringUp (s'.latch c) = a' at attempts ⊢
  cases attempts with
  | ok h => exact hR.apply (.reply _) (hR.apply (.lifecycle _) h)
  | error e h => exact hR.raise e h
  | refused h => exact h

theorem runSetv (hR : Simulation R) (v : BitVec 16) (h : R s s') : R (runSetv v s) (runSetv v s') := by
  have attempts := hR.transmitValue v h
  rw [Machine.runSetv, Machine.runSetv]
  generalize Machine.transmitValue v s = a, Machine.transmitValue v s' = a' at attempts ⊢
  cases attempts with
  | ok h => exact hR.apply (.reply _) h
  | error e h => exact hR.raise e h
  | refused h => exact h

theorem execInit (hR : Simulation R) (c : InitImage) (h : R s s') :
    OutcomesAlike R (execInit c s) (execInit c s') := by
  rw [Machine.execInit, Machine.execInit, (hR.looksLike h).lifecycle]
  cases s.lifecycle with
  | uninit => exact .next (hR.runInit c h)
  | initializing => exact .fault _
  | ready => exact .next (hR.apply (.usageFault _) h)
  | closed => exact .next (hR.apply (.usageFault _) h)

theorem execSetv (hR : Simulation R) (v : BitVec 16) (h : R s s') :
    OutcomesAlike R (execSetv v s) (execSetv v s') := by
  rw [Machine.execSetv, Machine.execSetv, (hR.looksLike h).lifecycle]
  cases s.lifecycle with
  | uninit => exact .next (hR.apply (.usageFault _) h)
  | initializing => exact .fault _
  | ready => exact .next (hR.runSetv v h)
  | closed => exact .next (hR.apply (.usageFault _) h)

theorem execClose (hR : Simulation R) (h : R s s') : OutcomesAlike R (execClose s) (execClose s') := by
  rw [Machine.execClose, Machine.execClose, (hR.looksLike h).lifecycle]
  cases s.lifecycle with
  | uninit => exact .next (hR.apply (.usageFault _) h)
  | initializing => exact .fault _
  | ready => exact .next (hR.apply (.reply _) (hR.apply (.lifecycle _) (hR.apply .closeHandle h)))
  | closed => exact .next (hR.apply (.reply _) h)

/-- Related states have related outcomes under every instruction. -/
theorem exec (hR : Simulation R) (i : Instr) (h : R s s') : OutcomesAlike R (exec i s) (exec i s') := by
  have looksLike := hR.looksLike h
  cases i with
  | nop => exact .next (hR.apply (.reply _) h)
  | init c => exact hR.execInit c h
  | setv v => exact hR.execSetv v h
  | close => exact hR.execClose h
  | dacWrite f =>
    refine .next (hR.settle ?_)
    rw [looksLike.channelBug]
    exact hR.transmit _ h
  | openBus => exact .next (hR.settle (hR.requestOpen h))
  | wrMode => exact .next (hR.settle (hR.requestWrMode h))
  | rdMode => exact .next (hR.settle (hR.requestRdMode h))
  | wrBpw => exact .next (hR.settle (hR.requestWrBpw h))
  | rdBpw => exact .next (hR.settle (hR.requestRdBpw h))
  | wrSpeed => exact .next (hR.settle (hR.requestWrSpeed h))
  | rdSpeed => exact .next (hR.settle (hR.requestRdSpeed h))
  | transfer =>
    refine .next (hR.settle ?_)
    rw [looksLike.tx]
    exact hR.transmit _ h
  | release => exact .next (hR.apply .closeHandle h)

/-- The next state of one has its counterpart in the other. -/
theorem exec_next (hR : Simulation R) {i : Instr} {t : State} (h : R s s') (ht : Machine.exec i s = .next t) :
    ∃ t', Machine.exec i s' = .next t' ∧ R t t' := by
  have alike := hR.exec i h
  rw [ht] at alike
  generalize Machine.exec i s' = outcome at alike ⊢
  cases alike with
  | next h => exact ⟨_, rfl, h⟩

end Simulation

/-- What every update keeps, every instruction keeps. -/
theorem exec_keeps {P : State → Prop} (hP : ∀ (u : Update) (s : State), P s → P (u.apply s)) {i : Instr}
    {s t : State} (ht : exec i s = .next t) (h : P s) : P t := by
  have simulation : Simulation fun s s' => P s ∧ s' = s :=
    { looksLike := by
        rintro s _ ⟨-, rfl⟩
        exact .refl _
      apply := by
        rintro u s _ ⟨h, rfl⟩
        exact ⟨hP u _ h, rfl⟩ }
  obtain ⟨_, -, hPt, -⟩ := simulation.exec_next ⟨h, rfl⟩ ht
  exact hPt

end Sys2Proof.Machine
end

section
/-! What every instruction leaves unread: `RX`, `TRACE` and the number of a valid handle (10_state.md R30, R33,
20_memory.md R39). -/

namespace Sys2Proof.Machine

/-! ### `RX` -/

/-- The same state but for the contents of `RX`. -/
def State.SameButRx (s s' : State) : Prop := ∃ m, s' = { s with rx := m }

theorem simulation_sameButRx : Simulation State.SameButRx where
  looksLike := by
    rintro s _ ⟨m, rfl⟩
    exact ⟨rfl, rfl, rfl, rfl, rfl, rfl, rfl, rfl, rfl, fun _ => rfl⟩
  apply := by
    rintro u s _ ⟨m, rfl⟩
    refine ⟨(u.apply { s with rx := m }).rx, ?_⟩
    cases u with
    | closeHandle =>
      cases held : s.handle <;> simp [Update.apply, State.closeHandle, State.record, held]
    | _ => rfl

/-- Settles O10: states that differ in `RX` only look alike, and every update keeps them so. -/
theorem receiveBufferIsNeverRead : Obligations.ReceiveBufferIsNeverRead := by
  unfold Obligations.ReceiveBufferIsNeverRead
  intro i s t m run
  obtain ⟨t', run', m', rfl⟩ := simulation_sameButRx.exec_next ⟨m, rfl⟩ run
  exact ⟨m', run'⟩

/-! ### `TRACE` -/

/-- The same state but for what the trace began with: after it, `old` in the one and `es` in the other, both have
gained the same events. -/
def State.SameButTrace (old es : List Event) (s s' : State) : Prop :=
  ∃ new, s.trace = old ++ new ∧ s' = { s with trace := es ++ new }

/-- An update appends the same events whatever the trace holds. -/
theorem Update.apply_with_trace (u : Update) (s : State) :
    ∃ new, ∀ es, u.apply { s with trace := es } = { u.apply s with trace := es ++ new } := by
  cases u with
  | issue e => exact ⟨[e], fun _ => rfl⟩
  | sent F => exact ⟨[.transfer (s.putFrame F).descriptor (s.answer 0).word], fun _ => rfl⟩
  | closeHandle =>
    cases held : s.handle with
    | none => exact ⟨[], fun es => by simp [Update.apply, State.closeHandle, held]⟩
    | some h => exact ⟨[.release], fun es => by simp [Update.apply, State.closeHandle, State.record, held]⟩
  | _ => exact ⟨[], fun es => by simp [Update.apply, State.latch, State.rollback, State.putFrame, State.reply,
      State.usageFault, State.refuse]⟩

theorem Update.apply_trace (u : Update) (s : State) : ∃ new, (u.apply s).trace = s.trace ++ new := by
  obtain ⟨new, appends⟩ := u.apply_with_trace s
  exact ⟨new, congrArg State.trace (appends s.trace)⟩

theorem simulation_sameButTrace (old es : List Event) : Simulation (State.SameButTrace old es) where
  looksLike := by
    rintro s _ ⟨new, -, rfl⟩
    exact ⟨rfl, rfl, rfl, rfl, rfl, rfl, rfl, rfl, rfl, fun _ => rfl⟩
  apply := by
    rintro u s _ ⟨new, grown, rfl⟩
    obtain ⟨more, appends⟩ := u.apply_with_trace s
    refine ⟨new ++ more, ?_, ?_⟩
    · rw [← List.append_assoc, ← grown]
      exact congrArg State.trace (appends s.trace)
    · rw [appends, List.append_assoc]

/-- Settles O11: states whose traces differ in how they began look alike, and every update appends the same events
to both. -/
theorem traceIsNeverRead : Obligations.TraceIsNeverRead := by
  unfold Obligations.TraceIsNeverRead
  intro i s t es run
  have related : State.SameButTrace s.trace es s { s with trace := es } := ⟨[], by simp, by simp⟩
  obtain ⟨t', run', new, grown, rfl⟩ := (simulation_sameButTrace s.trace es).exec_next related run
  exact ⟨new, grown, run'⟩

/-! ### The number of the handle -/

/-- The same state but for the number of a valid handle. -/
def State.SameButHandleNumber (s s' : State) : Prop :=
  ∃ k : Option Handle, s' = { s with handle := k } ∧ k.isSome = s.handle.isSome

theorem simulation_sameButHandleNumber : Simulation State.SameButHandleNumber where
  looksLike := by
    rintro s _ ⟨k, rfl, -⟩
    exact ⟨rfl, rfl, rfl, rfl, rfl, rfl, rfl, rfl, rfl, fun _ => rfl⟩
  apply := by
    rintro u s _ ⟨k, rfl, valid⟩
    cases u with
    | handle h => exact ⟨h, rfl, rfl⟩
    | closeHandle =>
      refine ⟨none, ?_, by simp [Update.apply]⟩
      cases held : s.handle with
      | none =>
        have invalid : k = none := by simpa [held] using valid
        simp [Update.apply, State.closeHandle, invalid, held]
      | some h =>
        obtain ⟨h', rfl⟩ := Option.isSome_iff_exists.1 (valid.trans (by simp [held]))
        simp [Update.apply, State.closeHandle, State.record, held]
    | _ => exact ⟨k, rfl, valid⟩

/-- Settles O12: states that differ in the number of a valid handle look alike; OPEN and RELEASE make the handles
the same, and every other update keeps both valid. -/
theorem handleNumberIsNeverUsed : Obligations.HandleNumberIsNeverUsed := by
  unfold Obligations.HandleNumberIsNeverUsed
  intro i s t h h' held run
  have related : State.SameButHandleNumber s { s with handle := some h' } := ⟨some h', rfl, by simp [held]⟩
  obtain ⟨t', run', k, rfl, valid⟩ := simulation_sameButHandleNumber.exec_next related run
  exact ⟨k, run', valid⟩

end Sys2Proof.Machine
end

section
/-! What every step keeps: the events and the marks, `CHANNEL_BUG`, `RX_LEN` and the canonical buffers. -/

namespace Sys2Proof.Machine

/-! ### What a step comes to -/

/-- What a step leads to, by what it finds presented (43_driver.md R90, 10_state.md R34, R35, 70_reset_and_hazards.md
R114, R115, R121). -/
inductive State.StepsTo (s : State) : State → Prop where
  | idle : s.inputs = [] → StepsTo s s
  | resetRefused (rest) : s.inputs = .reset :: rest → s.handle.isSome = true →
      StepsTo s (State.refuse { s with inputs := rest } .resetWhileHandleValid)
  | resetTaken (rest) : s.inputs = .reset :: rest → s.handle = none →
      StepsTo s (State.powerOn { s with inputs := rest })
  | dropped (i rest) : s.inputs = i :: rest → i ≠ .reset → s.marked = true → StepsTo s { s with inputs := rest }
  | secondHost (rest) : s.inputs = .secondHost :: rest → s.marked = false →
      StepsTo s (State.refuse { s with inputs := rest } .secondHost)
  | reservedBits (w rest) : s.inputs = .word (.host w) :: rest → s.marked = false → decodeHost w = none →
      StepsTo s (State.refuse { s with inputs := rest } .reservedOperandBits)
  | ran (c i rest t) : s.inputs = .word c :: rest → s.marked = false → decode c = some i →
      exec i { s with inputs := rest } = .next t → StepsTo s t

theorem step_of_done {s t : State} {i : Input} {rest : List Input} (presented : s.inputs = i :: rest)
    (taken : takeInput i { s with inputs := rest } = .done t) : step s = .next t := by
  rw [step, fetch_of_input s i rest presented, taken]

theorem step_of_run {s t : State} {i : Input} {j : Instr} {rest : List Input} (presented : s.inputs = i :: rest)
    (taken : takeInput i { s with inputs := rest } = .run j t) : step s = exec j t := by
  rw [step, fetch_of_input s i rest presented, taken]

theorem step_of_never {s : State} {i : Input} {rest : List Input} (presented : s.inputs = i :: rest)
    (taken : takeInput i { s with inputs := rest } = .never) : step s = .refused .requestCodeNeverIssued := by
  rw [step, fetch_of_input s i rest presented, taken]

/-- Every next state of a step is one of these. -/
theorem stepsTo_of_step {s t : State} (h : step s = .next t) : s.StepsTo t := by
  cases presented : s.inputs with
  | nil =>
    cases (step_of_no_input s presented).symm.trans h
    exact .idle presented
  | cons i rest =>
    rcases takeInput_cases { s with inputs := rest } i with
      ⟨rfl, held, taken⟩ | ⟨rfl, invalid, taken⟩ | ⟨noReset, marked, taken⟩ | ⟨rfl, unmarked, taken⟩ |
      ⟨c, j, rfl, unmarked, spelled, taken⟩ | ⟨w, rfl, unmarked, unspelled, taken⟩ |
      ⟨c, rfl, unmarked, unspelled, noHost, taken⟩
    · cases (step_of_done presented taken).symm.trans h
      exact .resetRefused rest presented held
    · cases (step_of_done presented taken).symm.trans h
      exact .resetTaken rest presented invalid
    · cases (step_of_done presented taken).symm.trans h
      exact .dropped i rest presented noReset marked
    · cases (step_of_done presented taken).symm.trans h
      exact .secondHost rest presented unmarked
    · exact .ran c j rest t presented unmarked spelled ((step_of_run presented taken).symm.trans h)
    · cases (step_of_done presented taken).symm.trans h
      exact .reservedBits w rest presented unmarked unspelled
    · cases (step_of_never presented taken).symm.trans h

/-! ### Events and marks -/

/-- Nothing recorded in `s`, an event or a mark, is gone from `t`. -/
def State.RecordedIn (s t : State) : Prop := s.trace <+: t.trace ∧ s.fault <+: t.fault ∧ s.refused <+: t.refused

theorem State.RecordedIn.trans {s t u : State} (h : s.RecordedIn t) (h' : t.RecordedIn u) : s.RecordedIn u := by
  obtain ⟨trace, fault, refused⟩ := h
  obtain ⟨trace', fault', refused'⟩ := h'
  exact ⟨trace.trans trace', fault.trans fault', refused.trans refused'⟩

theorem State.RecordedIn.refl (s : State) : s.RecordedIn s :=
  ⟨List.prefix_rfl, List.prefix_rfl, List.prefix_rfl⟩

theorem State.recordedIn_refuse (s : State) (r : RefusalReason) : s.RecordedIn (s.refuse r) :=
  ⟨List.prefix_rfl, List.prefix_rfl, List.prefix_append _ _⟩

theorem Update.recordedIn_apply (u : Update) (s : State) : s.RecordedIn (u.apply s) := by
  obtain ⟨new, grown⟩ := u.apply_trace s
  refine ⟨⟨new, grown.symm⟩, ?fault, ?refused⟩
  case fault => cases u <;> simp [Update.apply]
  case refused => cases u <;> simp [Update.apply]

theorem exec_recordedIn {i : Instr} {s t : State} (run : exec i s = .next t) : s.RecordedIn t :=
  exec_keeps (fun u _ h => h.trans (u.recordedIn_apply _)) run (.refl s)

/-- Settles O6: every update appends to the three lists, and only the reset that is taken empties them. -/
theorem traceAndMarksOnlyGrow : Obligations.TraceAndMarksOnlyGrow := by
  unfold Obligations.TraceAndMarksOnlyGrow
  intro s t stepped noReset
  change s.RecordedIn t
  cases stepsTo_of_step stepped with
  | idle => exact .refl s
  | resetRefused rest presented => simp [presented] at noReset
  | resetTaken rest presented => simp [presented] at noReset
  | dropped => exact .refl s
  | secondHost rest => exact State.recordedIn_refuse _ _
  | reservedBits w rest => exact State.recordedIn_refuse _ _
  | ran c i rest _ _ _ _ run => exact (exec_recordedIn run :)

/-! ### The parameters -/

theorem Update.apply_channelBug (u : Update) (s : State) : (u.apply s).channelBug = s.channelBug := by
  cases u <;> simp [Update.apply]

theorem Update.apply_rxExtra (u : Update) (s : State) : (u.apply s).rxExtra = s.rxExtra := by
  cases u <;> simp [Update.apply]

/-- An instruction writes neither parameter (00_scope.md R8). -/
theorem exec_parameters {i : Instr} {s t : State} (run : exec i s = .next t) :
    t.channelBug = s.channelBug ∧ t.rxExtra = s.rxExtra := by
  refine exec_keeps (P := fun u => u.channelBug = s.channelBug ∧ u.rxExtra = s.rxExtra) ?_ run ⟨rfl, rfl⟩
  rintro u v ⟨channelBug, rxExtra⟩
  exact ⟨(u.apply_channelBug v).trans channelBug, (u.apply_rxExtra v).trans rxExtra⟩

/-- Nor does any step, a power-on reset among them (log 10). -/
theorem step_parameters {s t : State} (stepped : step s = .next t) :
    t.channelBug = s.channelBug ∧ t.rxExtra = s.rxExtra := by
  cases stepsTo_of_step stepped with
  | ran c i rest _ _ _ _ run => exact (exec_parameters run :)
  | _ => exact ⟨rfl, rfl⟩

/-- Settles O58: the default of the spec, and `step_parameters`. -/
theorem channelBugIsNeverWritten : Obligations.ChannelBugIsNeverWritten := by
  unfold Obligations.ChannelBugIsNeverWritten
  exact ⟨rfl, fun s t stepped => (step_parameters stepped).1⟩

/-! ### The buffers -/

theorem State.buffersWf_iff (s : State) :
    s.buffersWf = true ↔
      s.tx.wf = true ∧ s.rx.wf = true ∧ s.tx.within Config.frameBytes = true ∧ s.rx.within s.rxLen = true := by
  simp [State.buffersWf, and_assoc]

/-- `State.buffersWf` looks at nothing but the two buffers and `RX_LEN`. -/
theorem State.buffersWf_congr {s t : State} (tx : t.tx = s.tx) (rx : t.rx = s.rx) (rxExtra : t.rxExtra = s.rxExtra) :
    t.buffersWf = s.buffersWf := by
  rw [State.buffersWf, State.buffersWf, tx, rx, State.rxLen_congr rxExtra]

theorem State.buffersWf_putFrame {s : State} (h : s.buffersWf = true) (F : FrameWord) :
    (s.putFrame F).buffersWf = true := by
  obtain ⟨txWf, rxWf, txWithin, rxWithin⟩ := s.buffersWf_iff.1 h
  exact (State.buffersWf_iff _).2
    ⟨Memory.wf_writeFrame _ txWf F, rxWf, Memory.within_writeFrame _ txWithin F, rxWithin⟩

theorem State.buffersWf_sent {s : State} (h : s.buffersWf = true) (F : FrameWord) :
    (s.sent F).buffersWf = true := by
  obtain ⟨txWf, rxWf, txWithin, rxWithin⟩ := s.buffersWf_iff.1 h
  exact (State.buffersWf_iff _).2
    ⟨Memory.wf_writeFrame _ txWf F, Memory.wf_fillAny _ rxWf _ _, Memory.within_writeFrame _ txWithin F,
      Memory.within_fillAny _ _ rxWithin _⟩

/-- Only the two updates of a transfer write a buffer, and they write inside it. -/
theorem Update.buffersWf_apply (u : Update) (s : State) (h : s.buffersWf = true) : (u.apply s).buffersWf = true := by
  cases u with
  | putFrame F => exact State.buffersWf_putFrame h F
  | sent F => exact State.buffersWf_sent h F
  | closeHandle => rwa [Update.apply, State.buffersWf_congr (s := s) (by simp) (by simp) (by simp)]
  | _ => exact h

theorem step_buffersWf {s t : State} (stepped : step s = .next t) (h : s.buffersWf = true) : t.buffersWf = true := by
  cases stepsTo_of_step stepped with
  | resetTaken => rfl
  | ran c i rest _ _ _ _ run => exact exec_keeps Update.buffersWf_apply run h
  | _ => exact h

/-- Settles O9: `step_buffersWf`, and `RX_LEN` is the parameter `rxExtra` that no step writes. -/
theorem stepKeepsBuffersCanonical : Obligations.StepKeepsBuffersCanonical := by
  unfold Obligations.StepKeepsBuffersCanonical
  intro s t stepped
  exact ⟨step_buffersWf stepped, State.rxLen_congr (step_parameters stepped).2⟩

end Sys2Proof.Machine
end

section
/-! The three encodings read back: every word of the encoder decodes to its instruction, and a host word that decodes
is the encoder's word (30_encoding.md R49 to R57). -/

namespace Sys2Proof.Machine

open Sys2Proof.Laws

/-! ### The fields of the INIT operand (30_encoding.md R51) -/

theorem hostWord_bit (op : BitVec 2) (x : BitVec 80) {i : Nat} (h : i < 80) :
    (hostWord op x).getLsbD i = x.getLsbD i := by
  rw [hostWord, BitVec.getLsbD_append, if_pos h]

theorem encodeImage_value (c : InitImage) : (encodeImage c).extractLsb' 0 16 = c.value :=
  BitVec.extractLsb'_append_eq_right

theorem encodeImage_flags (c : InitImage) :
    (encodeImage c).getLsbD 16 = channelBit c.channel ∧ (encodeImage c).getLsbD 17 = c.buffered ∧
      (encodeImage c).getLsbD 18 = gainBit c.gain ∧ (encodeImage c).getLsbD 19 = c.active := by
  simp only [encodeImage, BitVec.getLsbD_append, BitVec.getLsbD_ofBool]
  simp

theorem encodeImage_mode (c : InitImage) : (encodeImage c).extractLsb' 20 2 = c.mode := by
  unfold encodeImage
  iterate 5 rw [BitVec.extractLsb'_append_eq_of_le (by omega)]
  exact BitVec.extractLsb'_append_eq_right

theorem encodeImage_bpw (c : InitImage) : (encodeImage c).extractLsb' 24 8 = c.bpw := by
  unfold encodeImage
  iterate 7 rw [BitVec.extractLsb'_append_eq_of_le (by omega)]
  exact BitVec.extractLsb'_append_eq_right

theorem encodeImage_speed (c : InitImage) : (encodeImage c).extractLsb' 32 32 = c.speed := by
  unfold encodeImage
  iterate 8 rw [BitVec.extractLsb'_append_eq_of_le (by omega)]
  exact BitVec.extractLsb'_append_eq_right

theorem encodeImage_delay (c : InitImage) : (encodeImage c).extractLsb' 64 16 = c.delay := by
  unfold encodeImage
  iterate 8 rw [BitVec.extractLsb'_append_eq_of_le (by omega)]
  exact BitVec.extractLsb'_append_eq_left

@[simp] theorem channelOfBit_channelBit (ch : Channel) : channelOfBit (channelBit ch) = ch := by
  cases ch <;> rfl

@[simp] theorem gainOfBit_gainBit (g : Gain) : gainOfBit (gainBit g) = g := by
  cases g <;> rfl

@[simp] theorem channelBit_channelOfBit (b : Bool) : channelBit (channelOfBit b) = b := by
  cases b <;> rfl

@[simp] theorem gainBit_gainOfBit (b : Bool) : gainBit (gainOfBit b) = b := by
  cases b <;> rfl

/-- The operand read back from a host word is the operand written. -/
theorem decodeImage_hostWord (op : BitVec 2) (c : InitImage) : decodeImage (hostWord op (encodeImage c)) = c := by
  obtain ⟨channel, buffered, gain, active⟩ := encodeImage_flags c
  rw [decodeImage, hostWord_operand _ _ 0 16 (by omega), hostWord_bit _ _ (by omega), hostWord_bit _ _ (by omega),
    hostWord_bit _ _ (by omega), hostWord_bit _ _ (by omega), hostWord_operand _ _ 20 2 (by omega),
    hostWord_operand _ _ 24 8 (by omega), hostWord_operand _ _ 32 32 (by omega),
    hostWord_operand _ _ 64 16 (by omega), encodeImage_value, channel, buffered, gain, active, encodeImage_mode,
    encodeImage_bpw, encodeImage_speed, encodeImage_delay, channelOfBit_channelBit, gainOfBit_gainBit]

/-- One bit, as a bit vector and as a field. -/
theorem ofBool_getLsbD_eq_extractLsb' {n : Nat} (w : BitVec n) (i : Nat) :
    BitVec.ofBool (w.getLsbD i) = w.extractLsb' i 1 := by
  ext k hk
  obtain rfl : k = 0 := by omega
  simp

/-- Two fields that stand side by side, as one. -/
theorem extractLsb'_glue {n start start' len len' : Nat} (w : BitVec n) (h : start + len = start') :
    w.extractLsb' start' len' ++ w.extractLsb' start len = w.extractLsb' start (len' + len) :=
  BitVec.extractLsb'_append_extractLsb'_eq_extractLsb' h.symm

/-- A word with `rsv2 = 0` has the operand of what is read from it. -/
theorem encodeImage_decodeImage (w : HostWord) (rsv2 : w.extractLsb' 22 2 = 0) :
    encodeImage (decodeImage w) = w.extractLsb' 0 80 := by
  rw [encodeImage, decodeImage]
  simp only [channelBit_channelOfBit, gainBit_gainOfBit, ofBool_getLsbD_eq_extractLsb']
  rw [show (0#2 : BitVec 2) = w.extractLsb' 22 2 from rsv2.symm, extractLsb'_glue w (rfl : 32 + 32 = 64),
    extractLsb'_glue w (rfl : 24 + 8 = 32), extractLsb'_glue w (rfl : 22 + 2 = 24),
    extractLsb'_glue w (rfl : 20 + 2 = 22), extractLsb'_glue w (rfl : 19 + 1 = 20),
    extractLsb'_glue w (rfl : 18 + 1 = 19), extractLsb'_glue w (rfl : 17 + 1 = 18),
    extractLsb'_glue w (rfl : 16 + 1 = 17), extractLsb'_glue w (rfl : 0 + 16 = 16)]

/-! ### The `op` field (30_encoding.md R50) -/

theorem decodeHost_init {w : HostWord} (wellFormed : hostWordWellFormed w = true) (op : w.extractLsb' 94 2 = 1#2) :
    decodeHost w = some (.init (decodeImage w)) := by
  rw [decodeHost, if_pos wellFormed, op]
  rfl

theorem decodeHost_setv {w : HostWord} (wellFormed : hostWordWellFormed w = true) (op : w.extractLsb' 94 2 = 2#2) :
    decodeHost w = some (.setv (w.extractLsb' 0 16)) := by
  rw [decodeHost, if_pos wellFormed, op]
  rfl

theorem decodeHost_close {w : HostWord} (wellFormed : hostWordWellFormed w = true) (op : w.extractLsb' 94 2 = 3#2) :
    decodeHost w = some .close := by
  rw [decodeHost, if_pos wellFormed, op]
  rfl

theorem opField_cases (op : BitVec 2) : op = 0#2 ∨ op = 1#2 ∨ op = 2#2 ∨ op = 3#2 := by
  revert op
  decide

/-- A host word decodes exactly where it is well formed (30_encoding.md R49). -/
theorem decodeHost_eq_none_iff (w : HostWord) : decodeHost w = none ↔ hostWordWellFormed w = false := by
  cases wellFormed : hostWordWellFormed w with
  | false => simp [decodeHost, wellFormed]
  | true =>
    rcases opField_cases (w.extractLsb' 94 2) with op | op | op | op
    · simp [decodeHost_nop wellFormed op]
    · simp [decodeHost_init wellFormed op]
    · simp [decodeHost_setv wellFormed op]
    · simp [decodeHost_close wellFormed op]

/-- What a host word spells, by its `op` field. -/
theorem decodeHost_cases {w : HostWord} {i : Instr} (h : decodeHost w = some i) :
    hostWordWellFormed w = true ∧
      (w.extractLsb' 94 2 = 0#2 ∧ i = .nop ∨ w.extractLsb' 94 2 = 1#2 ∧ i = .init (decodeImage w) ∨
        w.extractLsb' 94 2 = 2#2 ∧ i = .setv (w.extractLsb' 0 16) ∨ w.extractLsb' 94 2 = 3#2 ∧ i = .close) := by
  have wellFormed : hostWordWellFormed w = true := by
    rw [← Bool.not_eq_false, ← decodeHost_eq_none_iff, h]
    exact Option.some_ne_none i
  refine ⟨wellFormed, ?_⟩
  rcases opField_cases (w.extractLsb' 94 2) with op | op | op | op
  · exact .inl ⟨op, Option.some.inj (h.symm.trans (decodeHost_nop wellFormed op))⟩
  · exact .inr (.inl ⟨op, Option.some.inj (h.symm.trans (decodeHost_init wellFormed op))⟩)
  · exact .inr (.inr (.inl ⟨op, Option.some.inj (h.symm.trans (decodeHost_setv wellFormed op))⟩))
  · exact .inr (.inr (.inr ⟨op, Option.some.inj (h.symm.trans (decodeHost_close wellFormed op))⟩))

/-! ### Decoding what was encoded -/

/-- The table's numbering loses nothing of a code word (30_encoding.md R57). -/
theorem ofTable_tableBits (c : CodeWord) : CodeWord.ofTable c.tableBits c.toNat = some c := by
  cases c with
  | host w => simp [CodeWord.ofTable, CodeWord.tableBits, CodeWord.toNat, w.isLt]
  | frame w => simp [CodeWord.ofTable, CodeWord.tableBits, CodeWord.toNat, w.isLt]
  | request w => simp [CodeWord.ofTable, CodeWord.tableBits, CodeWord.toNat, w.isLt]

theorem setWidth_extractLsb'_of_append (v : BitVec 16) : (v.setWidth 80).extractLsb' 0 16 = v := by
  ext i hi
  simp [hi, Nat.lt_trans hi (by omega : 16 < 80)]

theorem decode_encode (i : Instr) : decode (encode i) = some i := by
  cases i with
  | init c =>
    have wellFormed : hostWordWellFormed (hostWord 1 (encodeImage c)) = true := (MatchesRow.init c).1
    exact (decodeHost_init wellFormed (hostWord_op _ _)).trans (by rw [decodeImage_hostWord])
  | setv v =>
    have wellFormed : hostWordWellFormed (hostWord 2 (v.setWidth 80)) = true := (MatchesRow.setv v).1
    exact (decodeHost_setv wellFormed (hostWord_op _ _)).trans
      (by rw [hostWord_operand _ _ _ _ (by omega), setWidth_extractLsb'_of_append])
  | dacWrite f => exact congrArg (fun g => some (Instr.dacWrite g)) (decodeFrame_frameWord f)
  | nop => decide
  | close => decide
  | _ => rfl

/-- Settles O13: the encoder's word keeps its number in the table, and decoding inverts the encoder. -/
theorem decodeInvertsEncode : Obligations.DecodeInvertsEncode := by
  unfold Obligations.DecodeInvertsEncode
  intro i
  rw [decodeTableWord, ofTable_tableBits]
  exact decode_encode i

/-! ### Encoding what was decoded -/

/-- A host word whose reserved field is zero is put together from its `op` and its operand (30_encoding.md R49). -/
theorem hostWord_of_reservedZero {w : HostWord} (h : reservedZero w = true) :
    hostWord (w.extractLsb' 94 2) (w.extractLsb' 0 80) = w := by
  have reserved : w.extractLsb' 80 14 = 0#14 := by simpa [reservedZero] using h
  rw [hostWord, ← reserved, extractLsb'_glue w (rfl : 80 + 14 = 94), extractLsb'_glue w (rfl : 0 + 80 = 80)]
  exact BitVec.extractLsb'_eq_self

theorem operand_eq_setWidth {x : BitVec 96} (unused : x.extractLsb' 16 64 = 0) :
    (x.extractLsb' 0 16).setWidth 80 = x.extractLsb' 0 80 := by
  have glued : x.extractLsb' 16 64 ++ x.extractLsb' 0 16 = x.extractLsb' 0 80 := extractLsb'_glue x rfl
  rw [← glued, unused]
  exact BitVec.setWidth_eq_append (by omega)

theorem encodedHost_eq {w : HostWord} {op : BitVec 2} {operand : BitVec 80} (reserved : reservedZero w = true)
    (hop : w.extractLsb' 94 2 = op) (hoperand : operand = w.extractLsb' 0 80) : hostWord op operand = w := by
  rw [← hop, hoperand]
  exact hostWord_of_reservedZero reserved

/-! ### The operand bits each command leaves unused (30_encoding.md R49) -/

theorem unusedOperandZero_nop {w : HostWord} (op : w.extractLsb' 94 2 = 0#2) :
    unusedOperandZero w = true ↔ w.extractLsb' 0 80 = 0 := by
  simp [unusedOperandZero, op]

theorem unusedOperandZero_init {w : HostWord} (op : w.extractLsb' 94 2 = 1#2) :
    unusedOperandZero w = true ↔ w.extractLsb' 22 2 = 0 := by
  simp [unusedOperandZero, op]

theorem unusedOperandZero_setv {w : HostWord} (op : w.extractLsb' 94 2 = 2#2) :
    unusedOperandZero w = true ↔ w.extractLsb' 16 64 = 0 := by
  simp [unusedOperandZero, op]

theorem unusedOperandZero_close {w : HostWord} (op : w.extractLsb' 94 2 = 3#2) :
    unusedOperandZero w = true ↔ w.extractLsb' 0 80 = 0 := by
  simp [unusedOperandZero, op]

theorem hostWordWellFormed_iff (w : HostWord) :
    hostWordWellFormed w = true ↔ w.extractLsb' 80 14 = 0 ∧ unusedOperandZero w = true := by
  simp [hostWordWellFormed, reservedZero]

/-- Settles O14: a word that decodes has no reserved or unused bit set, so its fields make it up. -/
theorem hostWordSpellsOneCommand : Obligations.HostWordSpellsOneCommand := by
  unfold Obligations.HostWordSpellsOneCommand
  intro w i spelled
  obtain ⟨wellFormed, fields⟩ := decodeHost_cases spelled
  obtain ⟨reservedField, unused⟩ := (hostWordWellFormed_iff w).1 wellFormed
  have reserved : reservedZero w = true := by simpa [reservedZero] using reservedField
  rcases fields with ⟨op, rfl⟩ | ⟨op, rfl⟩ | ⟨op, rfl⟩ | ⟨op, rfl⟩
  · exact congrArg CodeWord.host (encodedHost_eq reserved op ((unusedOperandZero_nop op).1 unused).symm)
  · exact congrArg CodeWord.host
      (encodedHost_eq reserved op (encodeImage_decodeImage w ((unusedOperandZero_init op).1 unused)))
  · exact congrArg CodeWord.host
      (encodedHost_eq reserved op (operand_eq_setWidth ((unusedOperandZero_setv op).1 unused)))
  · exact congrArg CodeWord.host (encodedHost_eq reserved op ((unusedOperandZero_close op).1 unused).symm)

/-- A field is zero exactly where its mask finds no bit. -/
theorem extractLsb'_eq_zero_iff_masked {n : Nat} (w mask : BitVec n) (start len : Nat)
    (hmask : mask = (BitVec.allOnes len).setWidth n <<< start) (inside : start + len ≤ n) :
    w.extractLsb' start len = 0 ↔ w &&& mask = 0 := by
  subst hmask
  constructor
  · intro zero
    ext i hi
    by_cases below : i < start
    · simp [below]
    · by_cases within : i - start < len
      · have bit := congrArg (fun x => x.getLsbD (i - start)) zero
        have bit : w[i] = false := by
          simpa [within, Nat.add_sub_cancel' (Nat.le_of_not_lt below), BitVec.getLsbD_eq_getElem hi] using bit
        simp [bit]
      · simp [below, within]
  · intro zero
    ext i hi
    have bit := congrArg (fun x => x.getLsbD (start + i)) zero
    simpa [hi, Nat.lt_of_lt_of_le (Nat.add_lt_add_left hi start) inside] using bit

/-- Settles O15: a word fails to decode where its reserved field, or the field its `op` leaves unused, is not zero;
each field is read through its mask. -/
theorem wordRefusedExactlyWhenUnusedBitsSet : Obligations.WordRefusedExactlyWhenUnusedBitsSet := by
  unfold Obligations.WordRefusedExactlyWhenUnusedBitsSet
  intro w
  have reserved := extractLsb'_eq_zero_iff_masked w 0x3FFF00000000000000000000 80 14 rfl (by omega)
  have operand := extractLsb'_eq_zero_iff_masked w 0xFFFFFFFFFFFFFFFFFFFF 0 80 rfl (by omega)
  have rsv2 := extractLsb'_eq_zero_iff_masked w 0xC00000 22 2 rfl (by omega)
  have aboveValue := extractLsb'_eq_zero_iff_masked w 0xFFFFFFFFFFFFFFFF0000 16 64 rfl (by omega)
  rw [decodeHost_eq_none_iff, ← Bool.not_eq_true, hostWordWellFormed_iff, not_and_or, reserved]
  rcases opField_cases (w.extractLsb' 94 2) with op | op | op | op
  · rw [unusedOperandZero_nop op, operand]
    simp [op]
  · rw [unusedOperandZero_init op, rsv2]
    simp [op]
  · rw [unusedOperandZero_setv op, aboveValue]
    simp [op]
  · rw [unusedOperandZero_close op, operand]
    simp [op]

/-! ### Written-out words and numbers -/

/-- Settles O16: closed words of the tables. -/
theorem writtenOutWordsDecode : Obligations.WrittenOutWordsDecode := by
  unfold Obligations.WrittenOutWordsDecode
  refine ⟨?_, ?_, ?_, ?_, ?_, ?_, ?_⟩ <;> decide

/-- Settles O2: closed numbers of the tables. -/
theorem lifecycleAndResultNumbers : Obligations.LifecycleAndResultNumbers := by
  unfold Obligations.LifecycleAndResultNumbers
  exact ⟨rfl, rfl, rfl, rfl, rfl, rfl, rfl, rfl, rfl, rfl⟩

end Sys2Proof.Machine
end

section
/-! The laws of ENCODE (40_register_encoder.md R65, R67): each control bit stands alone, and no pattern is left out. -/

namespace Sys2Proof.Machine

/-- What is written into a frame is all there is in it (30_encoding.md R53, R54). -/
theorem frameWord_decodeFrame (F : FrameWord) : frameWord (decodeFrame F) = F := by
  have channelA : ((if F.getLsbD 15 then Channel.a else .b) == .a) = F.getLsbD 15 := by cases F.getLsbD 15 <;> rfl
  have gainX1 : ((if F.getLsbD 13 then Gain.x1 else .x2) == .x1) = F.getLsbD 13 := by cases F.getLsbD 13 <;> rfl
  rw [frameWord, decodeFrame]
  simp only [channelA, gainX1, ofBool_getLsbD_eq_extractLsb']
  rw [extractLsb'_glue F (rfl : 14 + 1 = 15), extractLsb'_glue F (rfl : 13 + 1 = 14),
    extractLsb'_glue F (rfl : 12 + 1 = 13), extractLsb'_glue F (rfl : 0 + 12 = 12)]
  exact BitVec.extractLsb'_eq_self

/-- A value in range is its own clamp. -/
theorem clampValue_setWidth (v : BitVec 12) : clampValue (v.setWidth 16) = v := by
  apply BitVec.eq_of_toNat_eq
  rw [clampValue_toNat, BitVec.toNat_setWidth]
  omega

/-- Without `CHANNEL_BUG` the frame computed from the fields of a word is the word (40_register_encoder.md R66). -/
theorem encodeFields_false (f : FrameFields) : encodeFields false f = frameWord f := by
  rw [encodeFields, encodeFrame_eq_frameWord, clampValue_setWidth, wireChannel_false]

/-- Settles O17: a pattern is the frame of the fields read from it. -/
theorem everyFramePatternIsProduced : Obligations.EveryFramePatternIsProduced := by
  unfold Obligations.EveryFramePatternIsProduced
  intro F
  exact ⟨_, _, _, _, _, (encodeFields_false (decodeFrame F)).trans (frameWord_decodeFrame F)⟩

/-- An encoded frame is its four flags over the clamped value. -/
theorem encodeFrame_eq_append (ch : Channel) (buffered : Bool) (g : Gain) (active : Bool) (value : BitVec 16) :
    encodeFrame false ch buffered g active value =
      controlNibble (ch == .a) buffered (g == .x1) active ++ clampValue value := by
  rw [encodeFrame_eq_frameWord, frameWord_eq_append, wireChannel_false]

/-- Flipping flags of a frame leaves its payload. -/
theorem controlNibble_append_xor (a b c d p q r s : Bool) (v : BitVec 12) :
    (controlNibble a b c d ++ v) ^^^ (controlNibble p q r s ++ 0#12) =
      controlNibble (a ^^ p) (b ^^ q) (c ^^ r) (d ^^ s) ++ v := by
  have flags : controlNibble a b c d ^^^ controlNibble p q r s =
      controlNibble (a ^^ p) (b ^^ q) (c ^^ r) (d ^^ s) := by
    unfold controlNibble
    iterate 3 erw [BitVec.xor_append]
    simp only [BitVec.ofBool_xor_ofBool]
  rw [BitVec.xor_append, flags, BitVec.xor_zero]

theorem clampValue_of_out_of_range {value : BitVec 16} (h : 4095 < value.toNat) : clampValue value = 4095 := by
  apply BitVec.eq_of_toNat_eq
  rw [clampValue_toNat, Nat.min_eq_right h.le]
  rfl

/-- The high nibble of a frame is the flags alone. -/
theorem encodeFrame_nibble (ch : Channel) (buffered : Bool) (g : Gain) (active : Bool) (value : BitVec 16) :
    (encodeFrame false ch buffered g active value).extractLsb' 12 4 =
      controlNibble (ch == .a) buffered (g == .x1) active := by
  rw [encodeFrame_eq_append]
  exact BitVec.extractLsb'_append_eq_left

/-- A configuration whose flags differ by a mask has the frame that differs by it. -/
theorem encodeFrame_flip {mask : FrameWord} {p q r s : Bool} (hmask : mask = controlNibble p q r s ++ 0#12)
    {ch ch' : Channel} {buffered buffered' active active' : Bool} {g g' : Gain} (value : BitVec 16)
    (channel : (ch' == .a) = (ch == .a ^^ p)) (buffer : buffered' = (buffered ^^ q))
    (gain : (g' == .x1) = (g == .x1 ^^ r)) (activity : active' = (active ^^ s)) :
    encodeFrame false ch' buffered' g' active' value = encodeFrame false ch buffered g active value ^^^ mask := by
  rw [encodeFrame_eq_append, encodeFrame_eq_append, hmask, controlNibble_append_xor, channel, buffer, gain, activity]

theorem channel_flip {ch ch' : Channel} (h : ch' ≠ ch) : (ch' == .a) = (ch == .a ^^ true) := by
  cases ch <;> cases ch' <;> simp_all

theorem gain_flip {g g' : Gain} (h : g' ≠ g) : (g' == .x1) = (g == .x1 ^^ true) := by
  cases g <;> cases g' <;> simp_all

/-- Settles O21: round trip and saturation are the clamp's, each flip is one bit of the control nibble, and the two
parts of the frame depend on nothing else. -/
theorem encodeObeysItsLaws : Obligations.EncodeObeysItsLaws := by
  unfold Obligations.EncodeObeysItsLaws
  intro ch buffered g active value
  refine ⟨?roundTrip, ?saturation, ?determinism, ?channel, ?buffered, ?gain, ?active, ?nibble, ?payload⟩
  case roundTrip =>
    intro inRange
    rw [encodeFrame_payload, clampValue_toNat, Nat.min_eq_left inRange]
  case saturation =>
    intro outOfRange
    rw [encodeFrame_eq_append, encodeFrame_eq_append, clampValue_of_out_of_range outOfRange]
    rfl
  case determinism => exact fun value' same => congrArg _ same
  case channel =>
    intro ch' differs
    exact encodeFrame_flip (p := true) (q := false) (r := false) (s := false) rfl value (channel_flip differs)
      (by simp) (by simp) (by simp)
  case buffered =>
    exact encodeFrame_flip (p := false) (q := true) (r := false) (s := false) rfl value (by simp) (by simp)
      (by simp) (by simp)
  case gain =>
    intro g' differs
    exact encodeFrame_flip (p := false) (q := false) (r := true) (s := false) rfl value (by simp) (by simp)
      (gain_flip differs) (by simp)
  case active =>
    exact encodeFrame_flip (p := false) (q := false) (r := false) (s := true) rfl value (by simp) (by simp)
      (by simp) (by simp)
  case nibble =>
    intro value'
    rw [encodeFrame_nibble, encodeFrame_nibble]
  case payload =>
    intro ch' buffered' g' active'
    rw [encodeFrame_payload, encodeFrame_payload]

/-! ### `CHANNEL_BUG` (40_register_encoder.md R67) -/

/-- Under `CHANNEL_BUG` every frame is channel B's. -/
theorem encodeFrame_true (ch : Channel) (buffered : Bool) (g : Gain) (active : Bool) (value : BitVec 16) :
    encodeFrame true ch buffered g active value = encodeFrame false .b buffered g active value := by
  rw [encodeFrame_eq_frameWord, encodeFrame_eq_frameWord]
  rfl

/-- Settles O22: `encodeFrame_true`, in the encoder and in the three computations that read `CHANNEL_BUG`. -/
theorem channelBugSelectsChannelBAlways : Obligations.ChannelBugSelectsChannelBAlways := by
  unfold Obligations.ChannelBugSelectsChannelBAlways
  constructor
  · intro ch buffered g active value
    obtain ⟨channelBit, -⟩ := encodeFrame_flags true ch buffered g active value
    exact ⟨encodeFrame_true ch buffered g active value, channelBit⟩
  · intro s bug
    refine ⟨fun c => ?_, fun v => ?_, fun f => ?_⟩
    · rw [State.initFrame, bug, encodeFrame_true]
    · rw [State.encode, bug, encodeFrame_true]
    · rw [encodeFields, bug, encodeFrame_true]
      exact encodeFields_false { f with channel := .b }

end Sys2Proof.Machine
end

section
/-! One TRANSFER on the wire: the bits in their order, the edges they are sampled on, the chip-select frame around
them (42_transmit.md R81 to R85). -/

namespace Sys2Proof.Machine

/-- Settles O36: CPOL and CPHA are those bits of the mode; the four modes are closed. -/
theorem modeSplitsIntoPolarityAndPhase : Obligations.ModeSplitsIntoPolarityAndPhase := by
  unfold Obligations.ModeSplitsIntoPolarityAndPhase
  exact ⟨fun m => ⟨rfl, rfl⟩, ⟨rfl, rfl⟩, ⟨rfl, rfl⟩, ⟨rfl, rfl⟩, rfl, rfl⟩

/-! ### The bit sequence (42_transmit.md R82) -/

@[simp] theorem serialize_length (F : FrameWord) : (serialize F).length = 16 := by simp [serialize]

theorem serialize_getElem? (F : FrameWord) {k : Nat} (h : k < 16) :
    (serialize F)[k]? = some (F.getLsbD (15 - k)) := by
  simp [serialize, List.getElem?_range h]

/-- Settles O37: the length and the elements of `serialize`. -/
theorem mostSignificantBitGoesOutFirst : Obligations.MostSignificantBitGoesOutFirst := by
  unfold Obligations.MostSignificantBitGoesOutFirst
  exact fun F => ⟨serialize_length F, fun k h => serialize_getElem? F h⟩

/-- One more bit shifted in behind the high bits of a frame. -/
theorem shiftIn_next (F : FrameWord) {k : Nat} (h : k < 16) :
    ((F >>> (16 - k)) <<< 1) ||| (BitVec.ofBool (F.getLsbD (15 - k))).setWidth 16 = F >>> (16 - (k + 1)) := by
  ext i hi
  rcases Nat.eq_zero_or_pos i with rfl | positive
  · simp [show 16 - (k + 1) = 15 - k by omega]
  · have notBelow : ¬ i < 1 := by omega
    have notFirst : i ≠ 0 := by omega
    simp [notBelow, notFirst, BitVec.getLsbD_ofBool, show 16 - k + (i - 1) = 16 - (k + 1) + i by omega]

/-- After `k` bits a receiver holds the high `k` bits of the frame. -/
theorem deserialize_firstBits (F : FrameWord) {k : Nat} (h : k ≤ 16) :
    deserialize ((List.range k).map fun j => F.getLsbD (15 - j)) = F >>> (16 - k) := by
  induction k with
  | zero => simp [deserialize, BitVec.ushiftRight_eq_zero]
  | succ k ih =>
    rw [List.range_succ, List.map_append, deserialize, List.foldl_append, ← deserialize, ih (by omega)]
    exact shiftIn_next F (by omega)

@[simp] theorem deserialize_serialize (F : FrameWord) : deserialize (serialize F) = F := by
  rw [serialize, deserialize_firstBits F le_rfl]
  simp

/-! ### Sampling (42_transmit.md R83) -/

/-- The bit of a pair that goes over a data line. -/
def DataLine.bit : DataLine → Bool × Bool → Bool
  | .mosi, b => b.1
  | .miso, b => b.2

theorem exchanged_map_bit (out back : FrameWord) :
    (exchanged out back).map DataLine.mosi.bit = serialize out ∧
      (exchanged out back).map DataLine.miso.bit = serialize back := by
  constructor
  · exact List.map_fst_zip (by simp)
  · exact List.map_snd_zip (by simp)

/-- A pair put on the two lines leaves its bit on each. -/
theorem sampled_pair (line : DataLine) (pol pha sel level value : Bool) (b : Bool × Bool) (rest : List Pin) :
    sampled line pol pha sel level value (.data b.1 :: .miso b.2 :: rest) =
      sampled line pol pha sel level (line.bit b) rest := by
  cases line <;> rfl

/-- The first edge of a pulse, away from CPOL, takes the bit with `CPHA = 0` only. -/
theorem sampled_leadingEdge (line : DataLine) (pol pha value : Bool) (rest : List Pin) :
    sampled line pol pha true pol value (.clock (!pol) :: rest) =
      (if pha then [] else [value]) ++ sampled line pol pha true (!pol) value rest := by
  cases pol <;> cases pha <;> rfl

/-- The second edge of a pulse, back to CPOL, takes the bit with `CPHA = 1` only. -/
theorem sampled_trailingEdge (line : DataLine) (pol pha value : Bool) (rest : List Pin) :
    sampled line pol pha true (!pol) value (.clock pol :: rest) =
      (if pha then [value] else []) ++ sampled line pol pha true pol value rest := by
  cases pol <;> cases pha <;> rfl

theorem pulsesTrailing_cons (pol : Bool) (b : Bool × Bool) (bits : List (Bool × Bool)) :
    pulsesTrailing pol (b :: bits) =
      .clock (!pol) :: .data b.1 :: .miso b.2 :: .clock pol :: pulsesTrailing pol bits := by
  rw [pulsesTrailing, List.flatMap_cons]
  rfl

/-- With `CPHA = 0` the first pair is put on the lines before the first pulse. -/
theorem clocked_leading_cons (pol : Bool) (b : Bool × Bool) (bits : List (Bool × Bool)) :
    clocked pol false (b :: bits) = .data b.1 :: .miso b.2 :: pulsesLeading pol (b :: bits) := by
  simp [clocked]

/-- With `CPHA = 1` every pair is sampled on the edge after it was put on the lines. -/
theorem sampled_pulsesTrailing (line : DataLine) (pol value : Bool) (delay : BitVec 16) (bits : List (Bool × Bool)) :
    sampled line pol true true pol value (pulsesTrailing pol bits ++ [.wait delay, .deselect]) =
      bits.map line.bit := by
  induction bits generalizing value with
  | nil => rfl
  | cons b bits ih =>
    rw [pulsesTrailing_cons, List.cons_append, List.cons_append, List.cons_append, List.cons_append,
      sampled_leadingEdge, sampled_pair, sampled_trailingEdge, ih]
    rfl

/-- With `CPHA = 0` every pair stands on the lines when its pulse begins. -/
theorem sampled_pulsesLeading (line : DataLine) (pol : Bool) (delay : BitVec 16) (b : Bool × Bool)
    (bits : List (Bool × Bool)) :
    sampled line pol false true pol (line.bit b) (pulsesLeading pol (b :: bits) ++ [.wait delay, .deselect]) =
      (b :: bits).map line.bit := by
  induction bits generalizing b with
  | nil =>
    rw [pulsesLeading, List.cons_append, List.cons_append, sampled_leadingEdge, sampled_trailingEdge]
    rfl
  | cons c bits ih =>
    rw [pulsesLeading, List.cons_append, List.cons_append, List.cons_append, List.cons_append,
      sampled_leadingEdge, sampled_trailingEdge, sampled_pair, ih]
    rfl

/-- In every mode the edges of the mode give back the bits of the line. -/
theorem sampled_clocked (line : DataLine) (pol pha value : Bool) (delay : BitVec 16) (bits : List (Bool × Bool)) :
    sampled line pol pha true pol value (clocked pol pha bits ++ [.wait delay, .deselect]) = bits.map line.bit := by
  cases pha with
  | true => exact sampled_pulsesTrailing line pol value delay bits
  | false =>
    cases bits with
    | nil => rfl
    | cons b bits =>
      rw [clocked_leading_cons, List.cons_append, List.cons_append, sampled_pair, sampled_pulsesLeading]

theorem sampled_waveform (line : DataLine) (mode : BitVec 2) (delay : BitVec 16) (out back : FrameWord)
    (before : Bool) :
    sampled line (cpol mode) (cpha mode) false (cpol mode) before (waveform mode delay out back) =
      (exchanged out back).map line.bit :=
  sampled_clocked line (cpol mode) (cpha mode) before delay (exchanged out back)

/-- Settles O38: `sampled_waveform` on each line, and a bit sequence gives its frame back. -/
theorem receiverRecoversTheFrameInEveryMode : Obligations.ReceiverRecoversTheFrameInEveryMode := by
  unfold Obligations.ReceiverRecoversTheFrameInEveryMode
  intro w mode before ran
  obtain ⟨sent, shiftedIn⟩ := exchanged_map_bit w.sent w.shiftedIn
  have mosi := (sampled_waveform .mosi mode w.delayUs w.sent w.shiftedIn before).trans sent
  have miso := (sampled_waveform .miso mode w.delayUs w.sent w.shiftedIn before).trans shiftedIn
  refine ⟨waveform mode w.delayUs w.sent w.shiftedIn, by rw [Transmission.waveform, ran]; rfl, mosi, ?_, miso, ?_⟩
  · rw [mosi, deserialize_serialize]
  · rw [miso, deserialize_serialize]

/-! ### One chip-select frame (42_transmit.md R84) -/

/-- Neither the begin nor the end of a chip-select frame. -/
def Pin.inside (p : Pin) : Prop := p ≠ .select ∧ p ≠ .deselect

/-- A pulse goes to each level once. -/
theorem count_pulse (pol level : Bool) :
    (if Pin.clock (!pol) == .clock level then 1 else 0) + (if Pin.clock pol == .clock level then 1 else 0) = 1 := by
  cases pol <;> cases level <;> rfl

/-- What the pulses of a bit sequence are: nothing but clock and data, and each level once for each bit. -/
structure PulsesOf (bits : List (Bool × Bool)) (pins : List Pin) : Prop where
  inside : ∀ p ∈ pins, p.inside
  count : ∀ level, pins.countP (· == .clock level) = bits.length

theorem pulsesTrailing_pulsesOf (pol : Bool) (bits : List (Bool × Bool)) : PulsesOf bits (pulsesTrailing pol bits) := by
  induction bits with
  | nil => exact ⟨by simp [pulsesTrailing], by simp [pulsesTrailing]⟩
  | cons b bits ih =>
    rw [pulsesTrailing_cons]
    refine ⟨?_, fun level => ?_⟩
    · simpa [Pin.inside] using ih.inside
    · have once := count_pulse pol level
      simp only [List.countP_cons, ih.count level, List.length_cons]
      simp at once ⊢
      omega

theorem pulsesLeading_pulsesOf (pol : Bool) (bits : List (Bool × Bool)) : PulsesOf bits (pulsesLeading pol bits) := by
  induction bits using pulsesLeading.induct with
  | case1 => exact ⟨by simp [pulsesLeading], by simp [pulsesLeading]⟩
  | case2 b =>
    rw [pulsesLeading]
    refine ⟨by simp [Pin.inside], fun level => ?_⟩
    have once := count_pulse pol level
    simp only [List.countP_cons, List.countP_nil, List.length_cons, List.length_nil]
    omega
  | case3 b c bits ih =>
    rw [pulsesLeading]
    refine ⟨?_, fun level => ?_⟩
    · simpa [Pin.inside] using ih.inside
    · have once := count_pulse pol level
      have rest := ih.count level
      simp only [List.countP_cons, List.length_cons] at rest ⊢
      simp at once rest ⊢
      omega

theorem clocked_pulsesOf (pol pha : Bool) (bits : List (Bool × Bool)) : PulsesOf bits (clocked pol pha bits) := by
  cases pha with
  | true => exact pulsesTrailing_pulsesOf pol bits
  | false =>
    cases bits with
    | nil => exact pulsesLeading_pulsesOf pol []
    | cons b bits =>
      obtain ⟨inside, count⟩ := pulsesLeading_pulsesOf pol (b :: bits)
      rw [clocked_leading_cons]
      exact ⟨by simpa [Pin.inside] using inside, fun level => by simpa using count level⟩

/-- Settles O39: the pulses are those of sixteen bits. -/
theorem oneChipSelectFrameOfSixteenPulses : Obligations.OneChipSelectFrameOfSixteenPulses := by
  unfold Obligations.OneChipSelectFrameOfSixteenPulses
  intro mode delay F back
  obtain ⟨inside, count⟩ := clocked_pulsesOf (cpol mode) (cpha mode) (exchanged F back)
  have sixteen : (exchanged F back).length = 16 := by simp [exchanged]
  exact ⟨clocked (cpol mode) (cpha mode) (exchanged F back), rfl, inside,
    (count _).trans sixteen, (count _).trans sixteen⟩

end Sys2Proof.Machine
end

section
/-! What a step does with each input presented (43_driver.md R90, 70_reset_and_hazards.md R114, R115, R121). -/

namespace Sys2Proof.Machine

variable {s : State} {rest : List Input}

theorem State.marked_iff (s : State) : s.marked = true ↔ s.fault ≠ [] ∨ s.refused ≠ [] := by
  simp [State.marked]

theorem takeInput_reset_taken (invalid : s.handle = none) : takeInput .reset s = .done s.powerOn := by
  simp [takeInput, State.takeReset, invalid]

theorem takeInput_reset_refused (held : s.handle ≠ none) :
    takeInput .reset s = .done (s.refuse .resetWhileHandleValid) := by
  simp [takeInput, State.takeReset, Option.isSome_iff_ne_none.2 held]

theorem takeInput_secondHost (unmarked : s.marked = false) :
    takeInput .secondHost s = .done (s.refuse .secondHost) := by
  simp [takeInput, unmarked]

theorem takeInput_word_of_marked (marked : s.marked = true) (c : CodeWord) : takeInput (.word c) s = .done s := by
  simp [takeInput, marked]

theorem takeInput_word_of_decode (unmarked : s.marked = false) {c : CodeWord} {i : Instr}
    (spelled : decode c = some i) : takeInput (.word c) s = .run i s := by
  simp [takeInput, takeWord, unmarked, spelled]

theorem takeInput_host_of_illFormed (unmarked : s.marked = false) {w : HostWord}
    (illFormed : hostWordWellFormed w = false) :
    takeInput (.word (.host w)) s = .done (s.refuse .reservedOperandBits) := by
  have unspelled : decode (.host w) = none := (decodeHost_eq_none_iff w).2 illFormed
  simp [takeInput, takeWord, unmarked, unspelled]

theorem takeInput_request_of_never (unmarked : s.marked = false) {w : RequestCode}
    (never : decodeRequest w = none) : takeInput (.word (.request w)) s = .never := by
  have unspelled : decode (.request w) = none := never
  simp [takeInput, takeWord, unmarked, unspelled]

/-- The request codes that are no row of the table (30_encoding.md R56). -/
theorem decodeRequest_eq_none : ∀ {w : RequestCode}, w.toNat = 0 ∨ 10 ≤ w.toNat → decodeRequest w = none := by
  decide

/-- Settles O3: the two resets, told apart by the handle. -/
theorem resetIsTakenOrRefusedByTheHandle : Obligations.ResetIsTakenOrRefusedByTheHandle := by
  unfold Obligations.ResetIsTakenOrRefusedByTheHandle
  intro s rest presented
  constructor
  · intro invalid
    rw [step_of_done presented (takeInput_reset_taken invalid), State.powerOn]
  · intro held
    rw [step_of_done presented (takeInput_reset_refused held), State.refuse]

/-- Settles O4: a second host in an unmarked block. -/
theorem secondHostIsRefused : Obligations.SecondHostIsRefused := by
  unfold Obligations.SecondHostIsRefused
  intro s rest presented noFault noRefusal
  have unmarked : State.marked { s with inputs := rest } = false :=
    (State.marked_eq_false _).2 ⟨noFault, noRefusal⟩
  rw [step_of_done presented (takeInput_secondHost unmarked), State.refuse, noRefusal, List.nil_append]

/-- Settles O5: a word presented to a marked block is dropped. -/
theorem markedBlockTakesNoCommand : Obligations.MarkedBlockTakesNoCommand := by
  unfold Obligations.MarkedBlockTakesNoCommand
  intro s c rest presented mark
  have marked : State.marked { s with inputs := rest } = true := (State.marked_iff _).2 mark
  exact step_of_done presented (takeInput_word_of_marked marked c)

/-- Settles O40: an unmarked block runs what the word decodes to. -/
theorem stepRunsTheDecodedInstruction : Obligations.StepRunsTheDecodedInstruction := by
  unfold Obligations.StepRunsTheDecodedInstruction
  intro s c i rest presented noFault noRefusal spelled
  have unmarked : State.marked { s with inputs := rest } = false :=
    (State.marked_eq_false _).2 ⟨noFault, noRefusal⟩
  exact step_of_run presented (takeInput_word_of_decode unmarked spelled)

/-- Settles O41: the word check comes before the lifecycle state is looked at. -/
theorem wordWithReservedBitsIsRefused : Obligations.WordWithReservedBitsIsRefused := by
  unfold Obligations.WordWithReservedBitsIsRefused
  intro s w rest presented noFault noRefusal illFormed
  have unmarked : State.marked { s with inputs := rest } = false :=
    (State.marked_eq_false _).2 ⟨noFault, noRefusal⟩
  rw [step_of_done presented (takeInput_host_of_illFormed unmarked illFormed), State.refuse, noRefusal, List.nil_append]

/-- Settles O42: the seven codes that are no row decode to nothing. -/
theorem requestCodeNeverIssuedIsRefused : Obligations.RequestCodeNeverIssuedIsRefused := by
  unfold Obligations.RequestCodeNeverIssuedIsRefused
  intro s w rest presented noFault noRefusal never
  have unmarked : State.marked { s with inputs := rest } = false :=
    (State.marked_eq_false _).2 ⟨noFault, noRefusal⟩
  exact step_of_never presented (takeInput_request_of_never unmarked (decodeRequest_eq_none never))

end Sys2Proof.Machine
end

section
/-! The instructions one by one: the host commands by lifecycle state, and each transport request run alone
(43_driver.md R90, 41_transport_lifecycle.md R70 to R78). -/

namespace Sys2Proof.Machine

/-! ### The host commands by lifecycle state (43_driver.md R90) -/

section
variable {s : State}

theorem exec_init_of_uninit (h : s.lifecycle = .uninit) (c : InitImage) : exec (.init c) s = .next (runInit c s) := by
  rw [exec, execInit, h]

theorem exec_init_of_ready (h : s.lifecycle = .ready) (c : InitImage) :
    exec (.init c) s = .next (s.usageFault .initWhileReady) := by
  rw [exec, execInit, h]

theorem exec_init_of_closed (h : s.lifecycle = .closed) (c : InitImage) :
    exec (.init c) s = .next (s.usageFault .initAfterClosed) := by
  rw [exec, execInit, h]

theorem exec_init_of_initializing (h : s.lifecycle = .initializing) (c : InitImage) :
    exec (.init c) s = .fault .commandWhileInitializing := by
  rw [exec, execInit, h]

theorem exec_setv_of_uninit (h : s.lifecycle = .uninit) (v : BitVec 16) :
    exec (.setv v) s = .next (s.usageFault .setvBeforeReady) := by
  rw [exec, execSetv, h]

theorem exec_setv_of_ready (h : s.lifecycle = .ready) (v : BitVec 16) : exec (.setv v) s = .next (runSetv v s) := by
  rw [exec, execSetv, h]

theorem exec_setv_of_closed (h : s.lifecycle = .closed) (v : BitVec 16) :
    exec (.setv v) s = .next (s.usageFault .setvAfterClosed) := by
  rw [exec, execSetv, h]

theorem exec_setv_of_initializing (h : s.lifecycle = .initializing) (v : BitVec 16) :
    exec (.setv v) s = .fault .commandWhileInitializing := by
  rw [exec, execSetv, h]

theorem exec_close_of_uninit (h : s.lifecycle = .uninit) :
    exec .close s = .next (s.usageFault .closeWithNoDriver) := by
  rw [exec, execClose, h]

theorem exec_close_of_ready (h : s.lifecycle = .ready) :
    exec .close s = .next ({ s.closeHandle with lifecycle := .closed }.reply .ok) := by
  rw [exec, execClose, h]

theorem exec_close_of_closed (h : s.lifecycle = .closed) : exec .close s = .next (s.reply .ok) := by
  rw [exec, execClose, h]

theorem exec_close_of_initializing (h : s.lifecycle = .initializing) :
    exec .close s = .fault .commandWhileInitializing := by
  rw [exec, execClose, h]

end

/-- Settles O44: the five rows of the dispatch table that are usage faults. -/
theorem usageFaultsOnlyMarkFault : Obligations.UsageFaultsOnlyMarkFault := by
  unfold Obligations.UsageFaultsOnlyMarkFault
  intro s c v
  exact ⟨fun uninit => ⟨exec_setv_of_uninit uninit v, exec_close_of_uninit uninit⟩,
    fun ready => exec_init_of_ready ready c,
    fun closed => ⟨exec_init_of_closed closed c, exec_setv_of_closed closed v⟩⟩

/-- Settles O45: the row of INITIALIZING. -/
theorem commandsStopInInitializing : Obligations.CommandsStopInInitializing := by
  unfold Obligations.CommandsStopInInitializing
  intro s c v initializing
  exact ⟨exec_init_of_initializing initializing c, exec_setv_of_initializing initializing v,
    exec_close_of_initializing initializing⟩

/-- Settles O53: CLOSE is `closeHandle` with the move to CLOSED, and in CLOSED a reply. -/
theorem closeReleasesOnceAndIsRepeatable : Obligations.CloseReleasesOnceAndIsRepeatable := by
  unfold Obligations.CloseReleasesOnceAndIsRepeatable
  intro s
  constructor
  · intro ready held
    obtain ⟨h, held⟩ := Option.ne_none_iff_exists'.1 held
    rw [exec_close_of_ready ready, s.closeHandle_of_some h held]
    rfl
  · exact fun closed => exec_close_of_closed closed

/-! ### Requests the platform takes -/

/-- Settles O24: OPEN's accepted answer. -/
theorem openAcceptedStoresTheHandle : Obligations.OpenAcceptedStoresTheHandle := by
  unfold Obligations.OpenAcceptedStoresTheHandle
  intro s h answered
  have opened : requestOpen s =
      .ok { s.issue (.openBus Config.devicePath (some h)) with handle := some h } := by
    rw [requestOpen, answered]
  exact congrArg (fun a => Host.Outcome.next a.settle) opened

/-- Settles O25: an accepted write is `State.issue` of its event. -/
theorem writeAcceptedOnlyAddsItsEvent : Obligations.WriteAcceptedOnlyAddsItsEvent := by
  unfold Obligations.WriteAcceptedOnlyAddsItsEvent
  intro s accepted
  refine ⟨?mode, ?bpw, ?speed⟩
  case mode => exact congrArg (fun a => Host.Outcome.next a.settle) (requestWrite_ok s _ _ accepted)
  case bpw => exact congrArg (fun a => Host.Outcome.next a.settle) (requestWrite_ok s _ _ accepted)
  case speed => exact congrArg (fun a => Host.Outcome.next a.settle) (requestWrite_ok s _ _ accepted)

/-- Settles O26: the three accepted read-backs. -/
theorem readBackStoresTheConfirmedValue : Obligations.ReadBackStoresTheConfirmedValue := by
  unfold Obligations.ReadBackStoresTheConfirmedValue
  intro s accepted
  refine ⟨?mode, ?bpw, ?speed⟩
  case mode => exact congrArg (fun a => Host.Outcome.next a.settle) (requestRdMode_ok s accepted)
  case bpw => exact congrArg (fun a => Host.Outcome.next a.settle) (requestRdBpw_ok s accepted)
  case speed => exact congrArg (fun a => Host.Outcome.next a.settle) (requestRdSpeed_ok s accepted)

/-! ### Requests the platform rejects -/

/-- The event of a rejected request and the error it raises (60_exceptions.md R97 to R100); none for the instructions
that are no such request. -/
def State.rejection (s : State) : Instr → Option (Event × TransportError)
  | .openBus => some (.openBus Config.devicePath none, .openFailed)
  | .wrMode => some (.wrMode s.cfgMode false, .setModeFailed)
  | .rdMode => some (.rdMode none, .setModeFailed)
  | .wrBpw => some (.wrBpw s.cfgBpw false, .setBitsPerWordFailed)
  | .rdBpw => some (.rdBpw none, .setBitsPerWordFailed)
  | .wrSpeed => some (.wrSpeed s.cfgSpeed false, .setSpeedFailed)
  | .rdSpeed => some (.rdSpeed none, .setSpeedFailed)
  | _ => none

/-- A rejected request records its event and raises its error. -/
theorem exec_rejected {s : State} (rejected : (s.answer 0).accept = false) {i : Instr} {ev : Event}
    {e : TransportError} (h : s.rejection i = some (ev, e)) : exec i s = .next ((s.issue ev).raise e) := by
  cases i <;> cases h
  case openBus => exact congrArg (fun a => Host.Outcome.next a.settle) (requestOpen_fail s rejected)
  case rdMode => exact congrArg (fun a => Host.Outcome.next a.settle) (requestRdMode_fail s rejected)
  case rdBpw => exact congrArg (fun a => Host.Outcome.next a.settle) (requestRdBpw_fail s rejected)
  case rdSpeed => exact congrArg (fun a => Host.Outcome.next a.settle) (requestRdSpeed_fail s rejected)
  all_goals exact congrArg (fun a => Host.Outcome.next a.settle) (requestWrite_fail s _ _ rejected)

/-- Inside INIT the error aborts (60_exceptions.md R105). -/
theorem State.issue_raise_of_initializing {s : State} (inside : s.lifecycle = .initializing) (ev : Event)
    (e : TransportError) :
    (s.issue ev).raise e = s.afterFailedInit ([ev] ++ if s.handle.isSome then [.release] else []) e 1 := by
  rw [(s.issue ev).raise_of_initializing e inside, State.abort_eq, State.issue_handle]
  simp only [State.afterFailedInit, State.issue, List.append_assoc, Nat.add_zero]

/-- Elsewhere it is only returned (log 4). -/
theorem State.issue_raise_of_not_initializing {s : State} (outside : s.lifecycle ≠ .initializing) (ev : Event)
    (e : TransportError) :
    (s.issue ev).raise e =
      { s with trace := s.trace ++ [ev], replies := s.replies ++ [.error e], drawn := s.drawn + 1 } := by
  rw [(s.issue ev).raise_of_not_initializing e outside]
  rfl

/-- Settles O27: a rejected request records its event and aborts. -/
theorem rejectedRequestInsideInitAborts : Obligations.RejectedRequestInsideInitAborts := by
  unfold Obligations.RejectedRequestInsideInitAborts
  intro s inside rejected
  have aborts {i : Instr} {ev : Event} {e : TransportError} (h : s.rejection i = some (ev, e)) :
      exec i s = .next (s.afterFailedInit ([ev] ++ if s.handle.isSome then [.release] else []) e 1) := by
    rw [exec_rejected rejected h, State.issue_raise_of_initializing inside]
  exact ⟨aborts rfl, aborts rfl, aborts rfl, aborts rfl, aborts rfl, aborts rfl, aborts rfl⟩

/-- Settles O28: a rejected request records its event and returns its error. -/
theorem rejectedRequestOutsideInitOnlyReturnsItsError :
    Obligations.RejectedRequestOutsideInitOnlyReturnsItsError := by
  unfold Obligations.RejectedRequestOutsideInitOnlyReturnsItsError
  intro s outside rejected
  have returns {i : Instr} {ev : Event} {e : TransportError} (h : s.rejection i = some (ev, e)) :
      exec i s = .next { s with
        trace := s.trace ++ [ev], replies := s.replies ++ [.error e], drawn := s.drawn + 1 } := by
    rw [exec_rejected rejected h, State.issue_raise_of_not_initializing outside]
  exact ⟨returns rfl, returns rfl, returns rfl, returns rfl, returns rfl, returns rfl, returns rfl⟩

/-- RELEASE is CLOSE_HANDLE (41_transport_lifecycle.md R78). -/
theorem exec_release (s : State) : exec .release s = .next s.closeHandle := rfl

/-- Settles O29: `closeHandle` with a handle and without one. -/
theorem releaseOnceThenHarmless : Obligations.ReleaseOnceThenHarmless := by
  unfold Obligations.ReleaseOnceThenHarmless
  intro s
  constructor
  · intro held
    obtain ⟨h, held⟩ := Option.ne_none_iff_exists'.1 held
    rw [exec_release, s.closeHandle_of_some h held]
  · intro invalid
    rw [exec_release, s.closeHandle_of_none invalid]

end Sys2Proof.Machine
end

section
/-! One TRANSFER: what an answered one leaves, and what a refused one leaves, for TRANSFER, DAC_WRITE and SETV
(42_transmit.md R80, R85 to R87, 43_driver.md R93). -/

namespace Sys2Proof.Machine

/-! ### What TRANSMIT leaves -/

/-- `TX` holds a frame once it is written (20_memory.md R38). -/
theorem State.txHolds_of_writeFrame {t : State} {m : Memory} {F : FrameWord} (wf : m.wf = true)
    (written : t.tx = m.writeFrame F) : t.txHolds F := by
  intro off
  rw [memRead, State.buffer, written, Memory.read_writeFrame m wf, State.bufferLen_tx]
  by_cases h0 : off = 0
  · simp [h0]
  · by_cases h1 : off = 1
    · simp [h1]
    · rw [if_neg (by omega), if_neg h0, if_neg h1]

/-- A TRANSFER in the terms of the spec: its two buffers, its event, its transmission and its draw (42_transmit.md R80,
R85). -/
theorem State.sent_eq {s : State} (wf : s.buffersWf = true) (F : FrameWord) :
    s.sent F = { s with
      tx := (s.sent F).tx, rx := (s.sent F).rx, trace := s.trace ++ [s.transferEvent F (s.answer 0).word],
      wire := s.wire ++ [s.transmission F], drawn := s.drawn + 1 } := by
  obtain ⟨txWf, -⟩ := s.buffersWf_iff.1 wf
  have event : Event.transfer (s.putFrame F).descriptor (s.answer 0).word = s.transferEvent F (s.answer 0).word := by
    rw [s.putFrame_descriptor txWf F, State.transferEvent]
  rw [← event]
  rfl

theorem State.sent_trace_eq {s : State} (wf : s.buffersWf = true) (F : FrameWord) :
    (s.sent F).trace = s.trace ++ [s.transferEvent F (s.answer 0).word] :=
  congrArg State.trace (State.sent_eq wf F)

theorem State.sent_transferredTo {s : State} (wf : s.buffersWf = true) (F : FrameWord) :
    s.TransferredTo F (s.sent F) := by
  obtain ⟨txWf, rxWf, -⟩ := s.buffersWf_iff.1 wf
  exact ⟨State.sent_eq wf F, State.txHolds_of_writeFrame txWf rfl, s.sent_rxFree rxWf F⟩

theorem statusFailed_eq_false_iff (st : Status) : statusFailed st = false ↔ 0 ≤ st.toInt := by
  rw [← Bool.not_eq_true, statusFailed_iff, not_lt]

/-! ### TRANSFER and DAC_WRITE run alone (log 2) -/

theorem exec_transfer (s : State) :
    exec .transfer s = .next (transmit (s.tx.read 0 ++ s.tx.read 1) s).settle := rfl

theorem exec_dacWrite (s : State) (f : FrameFields) :
    exec (.dacWrite f) s = .next (transmit (encodeFields s.channelBug f) s).settle := rfl

/-- Settles O32: both rows are TRANSMIT of their frame, which the platform takes. -/
theorem transferTakenDeliversTheFrame : Obligations.TransferTakenDeliversTheFrame := by
  unfold Obligations.TransferTakenDeliversTheFrame
  intro s wf wordSize taken
  have sends (F : FrameWord) : (transmit F s).settle = s.sent F := by
    rw [transmit_ok s F wordSize ((statusFailed_eq_false_iff _).2 taken), Attempt.settle_ok]
  refine ⟨fun f => ⟨?word, ?dacWrite⟩, ?transfer⟩
  case word =>
    intro noBug
    rw [noBug, encodeFields_false]
  case dacWrite => exact ⟨_, (exec_dacWrite s f).trans (congrArg _ (sends _)), State.sent_transferredTo wf _⟩
  case transfer => exact ⟨_, (exec_transfer s).trans (congrArg _ (sends _)), State.sent_transferredTo wf _⟩

/-- Settles O33: both rows are TRANSMIT of their frame, which fails, and outside INIT the error is only returned. -/
theorem transferFailedReturnsItsError : Obligations.TransferFailedReturnsItsError := by
  unfold Obligations.TransferFailedReturnsItsError
  intro s wf wordSize failed outside
  have fails (F : FrameWord) :
      (transmit F s).settle = { s.sent F with replies := s.replies ++ [.error .transferFailed] } := by
    rw [transmit_fail s F wordSize ((statusFailed_iff _).2 failed), Attempt.settle_error,
      (s.sent F).raise_of_not_initializing _ outside]
    rfl
  refine ⟨fun f => ?dacWrite, ?transfer⟩
  case dacWrite => exact ⟨_, (exec_dacWrite s f).trans (congrArg _ (fails _)), State.sent_transferredTo wf _⟩
  case transfer => exact ⟨_, (exec_transfer s).trans (congrArg _ (fails _)), State.sent_transferredTo wf _⟩

/-! ### SETV in READY (43_driver.md R93) -/

/-- What SETV leaves when the platform takes its transfer. -/
theorem runSetv_ok {s : State} (v : BitVec 16) (wordSize : s.busBpw = some 8)
    (taken : statusFailed (s.answer 0).word = false) :
    runSetv v s =
      { s.sent (s.encode v) with frame := some (s.encode v), replies := s.replies ++ [.ok] } := by
  rw [runSetv, transmitValue, transmit_ok s _ wordSize taken]
  rfl

/-- What SETV leaves when its transfer fails: `STATE` is READY, so the error is only returned. -/
theorem runSetv_fail {s : State} (ready : s.lifecycle = .ready) (v : BitVec 16) (wordSize : s.busBpw = some 8)
    (failed : statusFailed (s.answer 0).word = true) :
    runSetv v s = { s.sent (s.encode v) with replies := s.replies ++ [.error .transferFailed] } := by
  have outside : (s.sent (s.encode v)).lifecycle ≠ .initializing := by simp [ready]
  rw [runSetv, transmitValue, transmit_fail s _ wordSize failed]
  exact State.raise_of_not_initializing _ _ outside

/-- What SETV leaves at another word size. -/
theorem runSetv_refused {s : State} (v : BitVec 16) (wordSize : s.busBpw ≠ some 8) :
    runSetv v s = (s.putFrame (s.encode v)).refuse .bitsPerWordNot8 := by
  rw [runSetv, transmitValue, transmit_refused s _ wordSize]
  rfl

/-- Settles O34: the three commands are TRANSMIT of their frame, which is refused. -/
theorem otherWordSizeIsRefusedAtTransmit : Obligations.OtherWordSizeIsRefusedAtTransmit := by
  unfold Obligations.OtherWordSizeIsRefusedAtTransmit
  intro s wf wordSize
  obtain ⟨txWf, -⟩ := s.buffersWf_iff.1 wf
  have holds (F : FrameWord) : ((s.putFrame F).refuse .bitsPerWordNot8).txHolds F :=
    State.txHolds_of_writeFrame txWf rfl
  have refuses (F : FrameWord) : (transmit F s).settle = (s.putFrame F).refuse .bitsPerWordNot8 := by
    rw [transmit_refused s F wordSize, Attempt.settle_refused]
  refine ⟨fun f => ?dacWrite, ?transfer, fun v ready => ?setv⟩
  case dacWrite => exact ⟨_, (exec_dacWrite s f).trans (congrArg _ (refuses _)), rfl, holds _⟩
  case transfer => exact ⟨_, (exec_transfer s).trans (congrArg _ (refuses _)), rfl, holds _⟩
  case setv => exact ⟨_, (exec_setv_of_ready ready v).trans (congrArg _ (runSetv_refused v wordSize)), rfl, holds _⟩

/-- Settles O50: the taken transfer of the frame, with `FRAME` and the reply. -/
theorem setvTransmitsAndStoresTheFrame : Obligations.SetvTransmitsAndStoresTheFrame := by
  unfold Obligations.SetvTransmitsAndStoresTheFrame
  intro v s wf ready wordSize taken
  refine ⟨s.sent (s.encode v), State.sent_transferredTo wf _, ?_⟩
  rw [exec_setv_of_ready ready, runSetv_ok v wordSize ((statusFailed_eq_false_iff _).2 taken), State.encode]

/-- Settles O51: the failed transfer of the frame, with the error returned. -/
theorem setvFailureKeepsTheDriverReady : Obligations.SetvFailureKeepsTheDriverReady := by
  unfold Obligations.SetvFailureKeepsTheDriverReady
  intro v s wf ready wordSize failed
  refine ⟨s.sent (s.encode v), State.sent_transferredTo wf _, ?_⟩
  rw [exec_setv_of_ready ready, runSetv_fail ready v wordSize ((statusFailed_iff _).2 failed)]

/-- The trace of an answered SETV gains the TRANSFER of its frame, whatever the status. -/
theorem runSetv_trace {s : State} (wf : s.buffersWf = true) (ready : s.lifecycle = .ready) (v : BitVec 16)
    (wordSize : s.busBpw = some 8) :
    (runSetv v s).trace = s.trace ++ [s.transferEvent (s.encode v) (s.answer 0).word] := by
  cases status : statusFailed (s.answer 0).word with
  | false => exact (congrArg State.trace (runSetv_ok v wordSize status)).trans (State.sent_trace_eq wf _)
  | true => exact (congrArg State.trace (runSetv_fail ready v wordSize status)).trans (State.sent_trace_eq wf _)

/-- The two bytes of a frame, put together again. -/
theorem frame_bytes (F : FrameWord) : F.extractLsb' 8 8 ++ F.extractLsb' 0 8 = F :=
  BitVec.extractLsb'_append_extractLsb'

/-- What the TRANSFER of a frame brings to the device (20_memory.md R47, 70_reset_and_hazards.md R122). -/
theorem received_transferEvent (s : State) (F : FrameWord) (st : Status) :
    (s.transferEvent F st).received = some (if statusFailed st then .unknown else .frame F) := by
  rw [State.transferEvent, Event.received, frame_bytes]

/-- Settles O55: the one event SETV adds, as the device receives it. -/
theorem setvDeliversItsFrameOrTheUnknown : Obligations.SetvDeliversItsFrameOrTheUnknown := by
  unfold Obligations.SetvDeliversItsFrameOrTheUnknown
  intro v s t wf ready wordSize run
  cases (exec_setv_of_ready ready v).symm.trans run
  rw [runSetv_trace wf ready v wordSize, deviceReceived, List.filterMap_append]
  simp only [List.filterMap_cons, List.filterMap_nil, received_transferEvent, statusFailed_iff]
  rfl

/-! ### A value out of range (60_exceptions.md R103) -/

/-- SETV depends on its operand through the frame alone. -/
theorem exec_setv_congr {s : State} {v v' : BitVec 16} (h : s.encode v = s.encode v') :
    exec (.setv v) s = exec (.setv v') s := by
  have transmitted : transmitValue v s = transmitValue v' s := by
    rw [transmitValue, transmitValue, h]
  cases lifecycle : s.lifecycle with
  | uninit => rw [exec_setv_of_uninit lifecycle, exec_setv_of_uninit lifecycle]
  | initializing => rw [exec_setv_of_initializing lifecycle, exec_setv_of_initializing lifecycle]
  | ready => rw [exec_setv_of_ready lifecycle, exec_setv_of_ready lifecycle, runSetv, runSetv, transmitted]
  | closed => rw [exec_setv_of_closed lifecycle, exec_setv_of_closed lifecycle]

/-- Settles O52: the clamp makes the two frames the same. -/
theorem setvOutOfRangeIsSetvOfFullScale : Obligations.SetvOutOfRangeIsSetvOfFullScale := by
  unfold Obligations.SetvOutOfRangeIsSetvOfFullScale
  intro v s outOfRange
  have clamped : clampValue v = clampValue 4095 := clampValue_of_out_of_range outOfRange
  apply exec_setv_congr
  rw [State.encode, State.encode, encodeFrame_eq_frameWord, encodeFrame_eq_frameWord, clamped]

end Sys2Proof.Machine
end

section
/-! INIT in UNINIT: brought up, stopped at a rejected request, aborted at the initial frame, refused at another word
size (43_driver.md R92, R95). -/

namespace Sys2Proof.Machine

variable {s : State} {c : InitImage}

/-! ### The initial frame -/

theorem State.configured_buffersWf (wf : s.buffersWf = true) (c : InitImage) : (s.configured c).buffersWf = true := wf

theorem State.configured_busBpw (c : InitImage) :
    (s.configured c).busBpw = some 8 ↔ (s.answer 4).word.setWidth 8 = 8#8 :=
  Option.some_inj

/-- After the initial frame the trace has gained the eight events of INIT (43_driver.md R92). -/
theorem State.configured_sent_trace (wf : s.buffersWf = true) (accepted : ∀ k, k < 7 → (s.answer k).accept = true) :
    ((s.configured c).sent (s.initFrame c)).trace = s.trace ++ s.initEvents c := by
  rw [State.sent_trace_eq (State.configured_buffersWf wf c), s.configured_answer c 0, s.initEvents_eq c accepted,
    ← List.append_assoc]
  rfl

/-- And the bus has carried that frame in the confirmed mode. -/
theorem State.configured_sent_wire (accepted : ∀ k, k < 7 → (s.answer k).accept = true) :
    ((s.configured c).sent (s.initFrame c)).wire = s.wire ++ [s.initTransmission c] := by
  rw [State.sent_wire, s.configured_transmission c accepted]
  rfl

theorem State.configured_sent_txHolds (wf : s.buffersWf = true) :
    ((s.configured c).sent (s.initFrame c)).txHolds (s.initFrame c) := by
  obtain ⟨txWf, -⟩ := s.buffersWf_iff.1 wf
  exact State.txHolds_of_writeFrame txWf rfl

theorem State.configured_sent_rxFree (wf : s.buffersWf = true) :
    ((s.configured c).sent (s.initFrame c)).rxFree (s.drawn + 7) := by
  obtain ⟨-, rxWf, -⟩ := s.buffersWf_iff.1 wf
  exact (s.configured c).sent_rxFree rxWf (s.initFrame c)

/-! ### The four ends of INIT -/

/-- With seven accepted answers INIT gets as far as the initial frame. -/
theorem runInit_of_accepted (accepted : ∀ k, k < 7 → (s.answer k).accept = true) :
    (s.configured c).busBpw = some 8 ∧ statusFailed (s.answer 7).word = false ∧
        runInit c s =
          { (s.configured c).sent (s.initFrame c) with
            frame := some (s.initFrame c), lifecycle := .ready, replies := s.replies ++ [.ok] } ∨
      (s.configured c).busBpw = some 8 ∧ statusFailed (s.answer 7).word = true ∧
        runInit c s = ((s.configured c).sent (s.initFrame c)).abort .transferFailed ∨
      (s.configured c).busBpw ≠ some 8 ∧
        runInit c s = ((s.configured c).putFrame (s.initFrame c)).refuse .bitsPerWordNot8 := by
  rcases runInit_cases s c with ⟨k, _, inRange, -, rejected, -⟩ | ⟨-, ends⟩
  · simp [accepted k inRange] at rejected
  · exact ends

theorem runInit_ok (accepted : ∀ k, k < 7 → (s.answer k).accept = true)
    (wordSize : (s.answer 4).word.setWidth 8 = 8#8) (taken : statusFailed (s.answer 7).word = false) :
    runInit c s =
      { (s.configured c).sent (s.initFrame c) with
        frame := some (s.initFrame c), lifecycle := .ready, replies := s.replies ++ [.ok] } := by
  rcases runInit_of_accepted accepted (c := c) with ⟨-, -, run⟩ | ⟨-, failed, -⟩ | ⟨other, -⟩
  · exact run
  · simp [taken] at failed
  · exact absurd ((State.configured_busBpw c).2 wordSize) other

theorem runInit_fail (accepted : ∀ k, k < 7 → (s.answer k).accept = true)
    (wordSize : (s.answer 4).word.setWidth 8 = 8#8) (failed : statusFailed (s.answer 7).word = true) :
    runInit c s = ((s.configured c).sent (s.initFrame c)).abort .transferFailed := by
  rcases runInit_of_accepted accepted (c := c) with ⟨-, taken, -⟩ | ⟨-, -, run⟩ | ⟨other, -⟩
  · simp [taken] at failed
  · exact run
  · exact absurd ((State.configured_busBpw c).2 wordSize) other

theorem runInit_refused (accepted : ∀ k, k < 7 → (s.answer k).accept = true)
    (other : (s.answer 4).word.setWidth 8 ≠ 8#8) :
    runInit c s = ((s.configured c).putFrame (s.initFrame c)).refuse .bitsPerWordNot8 := by
  rcases runInit_of_accepted accepted (c := c) with ⟨wordSize, -⟩ | ⟨wordSize, -⟩ | ⟨-, run⟩
  · exact absurd ((State.configured_busBpw c).1 wordSize) other
  · exact absurd ((State.configured_busBpw c).1 wordSize) other
  · exact run

/-- The first rejected request is one, so the end it gives INIT is that one's. -/
theorem runInit_rejected {k : Nat} (inRange : k < 7) (before : ∀ j, j < k → (s.answer j).accept = true)
    (rejected : (s.answer k).accept = false) :
    ∃ e, initErrors[k]? = some e ∧
      runInit c s = s.afterFailedInit ((s.initEvents c).take (k + 1) ++
        (if k = 0 ∧ s.handle = none then [] else [.release])) e (k + 1) := by
  rcases runInit_cases s c with ⟨k', e, -, before', rejected', error, run⟩ | ⟨accepted, -⟩
  · rcases lt_trichotomy k k' with less | rfl | greater
    · simp [before' k less] at rejected
    · exact ⟨e, error, run⟩
    · simp [before k' greater] at rejected'
  · simp [accepted k inRange] at rejected

/-- Settles O46: the configured state with the initial frame sent, kept in `FRAME`, and the reply. -/
theorem initBringsTheBlockUp : Obligations.InitBringsTheBlockUp := by
  unfold Obligations.InitBringsTheBlockUp
  intro c s wf uninit accepted wordSize taken
  have confirmed : some 8 = (s.configured c).busBpw := ((State.configured_busBpw c).2 wordSize).symm
  refine ⟨_, (exec_init_of_uninit uninit c).trans (congrArg _ (runInit_ok accepted wordSize
    ((statusFailed_eq_false_iff _).2 taken))), ?_, State.configured_sent_txHolds wf, State.configured_sent_rxFree wf⟩
  rw [← State.configured_sent_trace wf accepted, ← State.configured_sent_wire accepted, confirmed]
  rfl

/-- Settles O47: `runInit_rejected`; with no handle held before INIT, only a failed OPEN leaves none to release. -/
theorem initStopsAtTheFirstRejectedRequest : Obligations.InitStopsAtTheFirstRejectedRequest := by
  unfold Obligations.InitStopsAtTheFirstRejectedRequest
  intro c s k uninit invalid inRange before rejected
  obtain ⟨e, error, run⟩ := runInit_rejected (c := c) inRange before rejected
  refine ⟨e, error, ?_⟩
  rw [exec_init_of_uninit uninit, run]
  simp only [invalid, and_true]

/-- Settles O48: the configured state with the initial frame sent, aborted with its handle held. -/
theorem initAbortsWhenTheInitialFrameFails : Obligations.InitAbortsWhenTheInitialFrameFails := by
  unfold Obligations.InitAbortsWhenTheInitialFrameFails
  intro c s wf uninit _ accepted wordSize failed
  have aborted := State.abort_eq ((s.configured c).sent (s.initFrame c)) .transferFailed
  refine ⟨_, (exec_init_of_uninit uninit c).trans (congrArg _ ((runInit_fail accepted wordSize
    ((statusFailed_iff _).2 failed)).trans aborted)), ?_, State.configured_sent_txHolds wf,
    State.configured_sent_rxFree wf⟩
  rw [← State.configured_sent_wire accepted, State.afterFailedInit, State.afterFailedInit, ← List.append_assoc,
    ← State.configured_sent_trace wf accepted]
  rfl

/-- Settles O49: the configured state with the frame in `TX` and the refusal. -/
theorem initIsRefusedAtAnotherWordSize : Obligations.InitIsRefusedAtAnotherWordSize := by
  unfold Obligations.InitIsRefusedAtAnotherWordSize
  intro c s wf uninit accepted other
  obtain ⟨txWf, -⟩ := s.buffersWf_iff.1 wf
  exact ⟨_, (exec_init_of_uninit uninit c).trans (congrArg _ (runInit_refused accepted other)), rfl,
    State.txHolds_of_writeFrame txWf rfl⟩

end Sys2Proof.Machine
end

section
/-! What an instruction comes to, and what it leaves of the registers of the driver, the results and the marks
(10_state.md R26, R31, 60_exceptions.md R96, R102, R105). -/

namespace Sys2Proof.Machine

/-! ### The registers a single request leaves alone -/

/-- S1 to S9 are the same in both states (10_state.md R17 to R25). -/
def State.SameCfg (s t : State) : Prop :=
  t.cfgChannel = s.cfgChannel ∧ t.cfgBuffered = s.cfgBuffered ∧ t.cfgGain = s.cfgGain ∧
    t.cfgActive = s.cfgActive ∧ t.cfgInitValue = s.cfgInitValue ∧ t.cfgMode = s.cfgMode ∧ t.cfgBpw = s.cfgBpw ∧
    t.cfgSpeed = s.cfgSpeed ∧ t.cfgDelay = s.cfgDelay

theorem State.SameCfg.refl (s : State) : s.SameCfg s := ⟨rfl, rfl, rfl, rfl, rfl, rfl, rfl, rfl, rfl⟩

theorem State.sameCfg_closeHandle (s : State) : s.SameCfg s.closeHandle := by simp [State.SameCfg]

/-- `STATE`, the configuration and `FRAME` are the same in both states, and so are the results returned. -/
structure State.SameDriver (s t : State) : Prop where
  lifecycle : t.lifecycle = s.lifecycle
  cfg : s.SameCfg t
  frame : t.frame = s.frame
  replies : t.replies = s.replies

/-- The state an attempt ends in. -/
def Attempt.state : Attempt → State
  | .ok s => s
  | .error _ s => s
  | .refused s => s

section
variable (s : State)

theorem requestOpen_sameDriver : s.SameDriver (requestOpen s).state := by
  unfold requestOpen
  split <;> exact ⟨rfl, .refl s, rfl, rfl⟩

theorem requestWrite_sameDriver (e : TransportError) (ev : Bool → Event) :
    s.SameDriver (requestWrite e ev s).state := by
  unfold requestWrite
  split <;> exact ⟨rfl, .refl s, rfl, rfl⟩

theorem requestRdMode_sameDriver : s.SameDriver (requestRdMode s).state := by
  unfold requestRdMode
  split <;> exact ⟨rfl, .refl s, rfl, rfl⟩

theorem requestRdBpw_sameDriver : s.SameDriver (requestRdBpw s).state := by
  unfold requestRdBpw
  split <;> exact ⟨rfl, .refl s, rfl, rfl⟩

theorem requestRdSpeed_sameDriver : s.SameDriver (requestRdSpeed s).state := by
  unfold requestRdSpeed
  split <;> exact ⟨rfl, .refl s, rfl, rfl⟩

theorem sent_sameDriver (F : FrameWord) : s.SameDriver (s.sent F) :=
  ⟨s.sent_lifecycle F, by simp [State.SameCfg], s.sent_frame F, s.sent_replies F⟩

theorem putFrame_refuse_sameDriver (F : FrameWord) (r : RefusalReason) :
    s.SameDriver ((s.putFrame F).refuse r) :=
  ⟨s.putFrame_lifecycle F, by simp [State.SameCfg], s.putFrame_frame F, s.putFrame_replies F⟩

theorem transmit_sameDriver (F : FrameWord) : s.SameDriver (transmit F s).state := by
  rcases transmit_cases s F with ⟨-, -, ends⟩ | ⟨-, -, ends⟩ | ⟨-, ends⟩
  · rw [ends]
    exact sent_sameDriver s F
  · rw [ends]
    exact sent_sameDriver s F
  · rw [ends]
    exact putFrame_refuse_sameDriver s F _

/-- A single request ends in what the request left, or with an error raised there. -/
theorem Attempt.settle_cases (a : Attempt) : a.settle = a.state ∨ ∃ e, a.settle = a.state.raise e := by
  cases a with
  | ok t => exact .inl rfl
  | error e t => exact .inr ⟨e, rfl⟩
  | refused t => exact .inl rfl

end

/-! ### What an instruction comes to -/

/-- The rows that a host command word spells (30_encoding.md R50). -/
def isHostCommand : Instr → Bool
  | .nop => true
  | .init _ => true
  | .setv _ => true
  | .close => true
  | _ => false

theorem decodeHost_hostCommand {w : HostWord} {i : Instr} (spelled : decodeHost w = some i) :
    isHostCommand i = true := by
  obtain ⟨-, ⟨-, rfl⟩ | ⟨-, rfl⟩ | ⟨-, rfl⟩ | ⟨-, rfl⟩⟩ := decodeHost_cases spelled <;> rfl

/-- What an instruction leads to: the rows of the dispatch table (43_driver.md R90), a RELEASE, or one request run
alone. -/
inductive State.RunsTo (s : State) : Instr → State → Prop where
  | nop : RunsTo s .nop (s.reply .ok)
  | usageFault (i f) : RunsTo s i (s.usageFault f)
  | init (c) : s.lifecycle = .uninit → RunsTo s (.init c) (runInit c s)
  | setv (v) : s.lifecycle = .ready → RunsTo s (.setv v) (runSetv v s)
  | close : s.lifecycle = .ready → RunsTo s .close ({ s.closeHandle with lifecycle := .closed }.reply .ok)
  | closeAgain : s.lifecycle = .closed → RunsTo s .close (s.reply .ok)
  | release : RunsTo s .release s.closeHandle
  | request (i) (a : Attempt) : isHostCommand i = false → s.SameDriver a.state → RunsTo s i a.settle

/-- Every next state of an instruction is one of these. -/
theorem runsTo_of_exec {i : Instr} {s t : State} (run : exec i s = .next t) : s.RunsTo i t := by
  cases i with
  | nop =>
    cases run
    exact .nop
  | init c =>
    cases lifecycle : s.lifecycle with
    | uninit =>
      cases (exec_init_of_uninit lifecycle c).symm.trans run
      exact .init c lifecycle
    | initializing => cases (exec_init_of_initializing lifecycle c).symm.trans run
    | ready =>
      cases (exec_init_of_ready lifecycle c).symm.trans run
      exact .usageFault _ _
    | closed =>
      cases (exec_init_of_closed lifecycle c).symm.trans run
      exact .usageFault _ _
  | setv v =>
    cases lifecycle : s.lifecycle with
    | uninit =>
      cases (exec_setv_of_uninit lifecycle v).symm.trans run
      exact .usageFault _ _
    | initializing => cases (exec_setv_of_initializing lifecycle v).symm.trans run
    | ready =>
      cases (exec_setv_of_ready lifecycle v).symm.trans run
      exact .setv v lifecycle
    | closed =>
      cases (exec_setv_of_closed lifecycle v).symm.trans run
      exact .usageFault _ _
  | close =>
    cases lifecycle : s.lifecycle with
    | uninit =>
      cases (exec_close_of_uninit lifecycle).symm.trans run
      exact .usageFault _ _
    | initializing => cases (exec_close_of_initializing lifecycle).symm.trans run
    | ready =>
      cases (exec_close_of_ready lifecycle).symm.trans run
      exact .close lifecycle
    | closed =>
      cases (exec_close_of_closed lifecycle).symm.trans run
      exact .closeAgain lifecycle
  | dacWrite f =>
    cases run
    exact .request _ _ rfl (transmit_sameDriver s _)
  | openBus =>
    cases run
    exact .request _ _ rfl (requestOpen_sameDriver s)
  | wrMode =>
    cases run
    exact .request _ _ rfl (requestWrite_sameDriver s _ _)
  | rdMode =>
    cases run
    exact .request _ _ rfl (requestRdMode_sameDriver s)
  | wrBpw =>
    cases run
    exact .request _ _ rfl (requestWrite_sameDriver s _ _)
  | rdBpw =>
    cases run
    exact .request _ _ rfl (requestRdBpw_sameDriver s)
  | wrSpeed =>
    cases run
    exact .request _ _ rfl (requestWrite_sameDriver s _ _)
  | rdSpeed =>
    cases run
    exact .request _ _ rfl (requestRdSpeed_sameDriver s)
  | transfer =>
    cases run
    exact .request _ _ rfl (transmit_sameDriver s _)
  | release =>
    cases run
    exact .release

/-! ### SETV and the single requests, seen through the driver's registers -/

/-- The three ends of SETV in READY. -/
theorem runSetv_cases {s : State} (ready : s.lifecycle = .ready) (v : BitVec 16) :
    s.busBpw = some 8 ∧ statusFailed (s.answer 0).word = false ∧
        runSetv v s = { s.sent (s.encode v) with frame := some (s.encode v), replies := s.replies ++ [.ok] } ∨
      s.busBpw = some 8 ∧ statusFailed (s.answer 0).word = true ∧
        runSetv v s = { s.sent (s.encode v) with replies := s.replies ++ [.error .transferFailed] } ∨
      s.busBpw ≠ some 8 ∧ runSetv v s = (s.putFrame (s.encode v)).refuse .bitsPerWordNot8 := by
  by_cases wordSize : s.busBpw = some 8
  · cases status : statusFailed (s.answer 0).word with
    | false => exact .inl ⟨wordSize, rfl, runSetv_ok v wordSize status⟩
    | true => exact .inr (.inl ⟨wordSize, rfl, runSetv_fail ready v wordSize status⟩)
  · exact .inr (.inr ⟨wordSize, runSetv_refused v wordSize⟩)

theorem runSetv_sameCfg {s : State} (ready : s.lifecycle = .ready) (v : BitVec 16) : s.SameCfg (runSetv v s) := by
  rcases runSetv_cases ready v with ⟨-, -, ends⟩ | ⟨-, -, ends⟩ | ⟨-, ends⟩
  · rw [ends]
    exact (sent_sameDriver s (s.encode v)).cfg
  · rw [ends]
    exact (sent_sameDriver s (s.encode v)).cfg
  · rw [ends]
    exact (putFrame_refuse_sameDriver s (s.encode v) _).cfg

theorem Attempt.settle_sameCfg {s : State} {a : Attempt} (kept : s.SameDriver a.state)
    (outside : s.lifecycle ≠ .initializing) : s.SameCfg a.settle := by
  rcases a.settle_cases with ends | ⟨e, ends⟩
  · rw [ends]
    exact kept.cfg
  · have outside : a.state.lifecycle ≠ .initializing := kept.lifecycle ▸ outside
    rw [ends, State.raise_of_not_initializing _ _ outside]
    exact kept.cfg

/-- Outside UNINIT and INITIALIZING no instruction writes the configuration (10_state.md R26). -/
theorem exec_sameCfg {i : Instr} {s t : State} (run : exec i s = .next t)
    (afterInit : s.lifecycle = .ready ∨ s.lifecycle = .closed) : s.SameCfg t := by
  have notUninit : s.lifecycle ≠ .uninit := by rcases afterInit with h | h <;> simp [h]
  have outside : s.lifecycle ≠ .initializing := by rcases afterInit with h | h <;> simp [h]
  cases runsTo_of_exec run with
  | init c uninit => exact absurd uninit notUninit
  | setv v ready => exact runSetv_sameCfg ready v
  | close => exact s.sameCfg_closeHandle
  | release => exact s.sameCfg_closeHandle
  | request _ a _ kept => exact a.settle_sameCfg kept outside
  | _ => exact .refl s

/-- Settles O7: `exec_sameCfg`, and of the other steps only the reset writes a register of the configuration. -/
theorem configurationIsReadOnlyAfterInit : Obligations.ConfigurationIsReadOnlyAfterInit := by
  unfold Obligations.ConfigurationIsReadOnlyAfterInit
  intro s t stepped noReset afterInit
  change s.SameCfg t
  cases stepsTo_of_step stepped with
  | resetTaken rest presented => simp [presented] at noReset
  | ran c i rest _ _ _ _ run => exact (exec_sameCfg run afterInit :)
  | _ => exact .refl s

/-! ### `FRAME` (10_state.md R31) -/

/-- The two ways `FRAME` may change: to the frame of the last event, a TRANSFER that succeeded, or to none with an
error that aborted. -/
def State.FrameRenewed (s t : State) : Prop :=
  (∃ d st, t.trace.getLast? = some (.transfer d st) ∧ statusFailed st = false ∧ t.frame = some (d.tx.1 ++ d.tx.2)) ∨
    t.frame = none ∧ t.lifecycle = .uninit ∧ ∃ e, t.replies = s.replies ++ [.error e]

/-- A state whose `FRAME` is the frame just sent, with success. -/
theorem State.frameRenewed_of_sent {s t u : State} {F : FrameWord} (wf : u.buffersWf = true)
    (taken : statusFailed (u.answer 0).word = false) (trace : t.trace = (u.sent F).trace) (frame : t.frame = some F) :
    s.FrameRenewed t := by
  obtain ⟨txWf, -⟩ := u.buffersWf_iff.1 wf
  refine .inl ⟨(u.putFrame F).descriptor, (u.answer 0).word, ?_, taken, ?_⟩
  · rw [trace, State.sent_trace, List.getLast?_concat]
  · rw [frame, u.putFrame_descriptor txWf F, frame_bytes]

theorem State.frameRenewed_of_abort {s u : State} (e : TransportError) (replies : u.replies = s.replies) :
    s.FrameRenewed (u.abort e) :=
  .inr ⟨u.abort_frame e, u.abort_lifecycle e, e, by rw [State.abort_replies, replies]⟩

theorem runInit_frame {s : State} (wf : s.buffersWf = true) (c : InitImage) :
    (runInit c s).frame = s.frame ∨ s.FrameRenewed (runInit c s) := by
  rcases runInit_cases s c with ⟨k, e, -, -, -, -, ends⟩ | ⟨-, ⟨-, taken, ends⟩ | ⟨-, -, ends⟩ | ⟨-, ends⟩⟩
  · rw [ends]
    exact .inr (.inr ⟨rfl, rfl, e, rfl⟩)
  · rw [ends]
    have taken : statusFailed ((s.configured c).answer 0).word = false := by
      rwa [s.configured_answer c 0]
    exact .inr (State.frameRenewed_of_sent (State.configured_buffersWf wf c) taken rfl rfl)
  · rw [ends]
    exact .inr (State.frameRenewed_of_abort .transferFailed rfl)
  · rw [ends]
    exact .inl rfl

theorem runSetv_frame {s : State} (wf : s.buffersWf = true) (ready : s.lifecycle = .ready) (v : BitVec 16) :
    (runSetv v s).frame = s.frame ∨ s.FrameRenewed (runSetv v s) := by
  rcases runSetv_cases ready v with ⟨-, taken, ends⟩ | ⟨-, -, ends⟩ | ⟨-, ends⟩
  · rw [ends]
    exact .inr (State.frameRenewed_of_sent wf taken rfl rfl)
  · rw [ends]
    exact .inl rfl
  · rw [ends]
    exact .inl rfl

theorem Attempt.settle_frame {s : State} {a : Attempt} (kept : s.SameDriver a.state) :
    a.settle.frame = s.frame ∨ s.FrameRenewed a.settle := by
  rcases a.settle_cases with ends | ⟨e, ends⟩
  · rw [ends]
    exact .inl kept.frame
  · rw [ends]
    by_cases inside : a.state.lifecycle = .initializing
    · rw [State.raise_of_initializing _ _ inside]
      exact .inr (State.frameRenewed_of_abort e kept.replies)
    · rw [State.raise_of_not_initializing _ _ inside]
      exact .inl kept.frame

/-- Settles O8: every end of an instruction keeps `FRAME` or renews it. -/
theorem frameChangesOnlyBySuccessfulTransfer : Obligations.FrameChangesOnlyBySuccessfulTransfer := by
  unfold Obligations.FrameChangesOnlyBySuccessfulTransfer
  intro i s t wf run changed
  change s.FrameRenewed t
  refine Or.resolve_left (?_ : t.frame = s.frame ∨ s.FrameRenewed t) changed
  cases runsTo_of_exec run with
  | init c => exact runInit_frame wf c
  | setv v ready => exact runSetv_frame wf ready v
  | close => exact .inl s.closeHandle_frame
  | release => exact .inl s.closeHandle_frame
  | request _ a _ kept => exact a.settle_frame kept
  | _ => exact .inl rfl

/-! ### One result or one mark (60_exceptions.md R96, R102) -/

/-- A command that ends in one result and no mark. -/
def State.EndsInResult (s t : State) : Prop :=
  (∃ r, t.replies = s.replies ++ [r]) ∧ t.fault = s.fault ∧ t.refused = s.refused

/-- A command that ends in one mark and no result. -/
def State.EndsInMark (s t : State) : Prop :=
  t.replies = s.replies ∧
    ((∃ f, t.fault = s.fault ++ [f]) ∧ t.refused = s.refused ∨
      t.fault = s.fault ∧ ∃ r, t.refused = s.refused ++ [r])

theorem runInit_endsInResult_or_endsInMark (c : InitImage) (s : State) :
    s.EndsInResult (runInit c s) ∨ s.EndsInMark (runInit c s) := by
  rcases runInit_cases s c with ⟨k, e, -, -, -, -, ends⟩ | ⟨-, ⟨-, -, ends⟩ | ⟨-, -, ends⟩ | ⟨-, ends⟩⟩
  · rw [ends]
    exact .inl ⟨⟨_, rfl⟩, rfl, rfl⟩
  · rw [ends]
    exact .inl ⟨⟨_, rfl⟩, rfl, rfl⟩
  · rw [ends]
    exact .inl ⟨⟨_, State.abort_replies _ _⟩, State.abort_fault _ _, State.abort_refused _ _⟩
  · rw [ends]
    exact .inr ⟨rfl, .inr ⟨rfl, _, rfl⟩⟩

theorem runSetv_endsInResult_or_endsInMark {s : State} (ready : s.lifecycle = .ready) (v : BitVec 16) :
    s.EndsInResult (runSetv v s) ∨ s.EndsInMark (runSetv v s) := by
  rcases runSetv_cases ready v with ⟨-, -, ends⟩ | ⟨-, -, ends⟩ | ⟨-, ends⟩
  · rw [ends]
    exact .inl ⟨⟨_, rfl⟩, rfl, rfl⟩
  · rw [ends]
    exact .inl ⟨⟨_, rfl⟩, rfl, rfl⟩
  · rw [ends]
    exact .inr ⟨rfl, .inr ⟨rfl, _, rfl⟩⟩

/-- Settles O54: each end of a host command is one or the other. -/
theorem hostCommandEndsInOneResultOrOneMark : Obligations.HostCommandEndsInOneResultOrOneMark := by
  unfold Obligations.HostCommandEndsInOneResultOrOneMark
  intro i w s t spelled run
  change s.EndsInResult t ∨ s.EndsInMark t
  have host := decodeHost_hostCommand spelled
  cases runsTo_of_exec run with
  | nop => exact .inl ⟨⟨_, rfl⟩, rfl, rfl⟩
  | usageFault => exact .inr ⟨rfl, .inl ⟨⟨_, rfl⟩, rfl⟩⟩
  | init c => exact runInit_endsInResult_or_endsInMark c s
  | setv v ready => exact runSetv_endsInResult_or_endsInMark ready v
  | close =>
    exact .inl ⟨⟨.ok, by simp [State.reply]⟩, s.closeHandle_fault, s.closeHandle_refused⟩
  | closeAgain => exact .inl ⟨⟨_, rfl⟩, rfl, rfl⟩
  | release => cases host
  | request _ _ alone => simp [alone] at host

end Sys2Proof.Machine
end

section
/-! The states a host drives the block through: what a step from one comes to, and that it leads to another
(43_driver.md R92 to R95). -/

namespace Sys2Proof.Machine

/-! ### A step from a legal state -/

/-- Nothing but the inputs, the results and the marks differs: inputs are taken from the front, and a refusal is not
taken back. -/
inductive State.QuietTo (s : State) : State → Prop where
  | intro (inputs replies fault refused) : inputs <:+ s.inputs → (s.refused ≠ [] → refused ≠ []) →
      QuietTo s { s with inputs := inputs, replies := replies, fault := fault, refused := refused }

theorem State.quietTo_refuse {s : State} {i : Input} {rest : List Input} (presented : s.inputs = i :: rest)
    (r : RefusalReason) : s.QuietTo (State.refuse { s with inputs := rest } r) :=
  .intro rest s.replies s.fault (s.refused ++ [r]) (presented ▸ List.suffix_cons i rest) (by simp)

theorem State.quietTo_usageFault {s : State} {i : Input} {rest : List Input} (presented : s.inputs = i :: rest)
    (f : UsageFault) : s.QuietTo (State.usageFault { s with inputs := rest } f) :=
  .intro rest s.replies (s.fault ++ [f]) s.refused (presented ▸ List.suffix_cons i rest) id

theorem State.quietTo_reply {s : State} {i : Input} {rest : List Input} (presented : s.inputs = i :: rest)
    (r : ResultCode) : s.QuietTo (State.reply { s with inputs := rest } r) :=
  .intro rest (s.replies ++ [r]) s.fault s.refused (presented ▸ List.suffix_cons i rest) id

/-- The steps of a block that a host drives: a quiet one, a reset, and INIT, SETV and CLOSE in the state
that each is for. -/
inductive State.HostStepsTo (s : State) : State → Prop where
  | quiet (t) : s.QuietTo t → HostStepsTo s t
  | reset (rest) : s.inputs = .reset :: rest → s.handle = none →
      HostStepsTo s (State.powerOn { s with inputs := rest })
  | init (w c rest) : s.inputs = .word (.host w) :: rest → decodeHost w = some (.init c) → s.lifecycle = .uninit →
      HostStepsTo s (runInit c { s with inputs := rest })
  | setv (w v rest) : s.inputs = .word (.host w) :: rest → decodeHost w = some (.setv v) → s.lifecycle = .ready →
      HostStepsTo s (runSetv v { s with inputs := rest })
  | close (w rest) : s.inputs = .word (.host w) :: rest → decodeHost w = some .close → s.lifecycle = .ready →
      HostStepsTo s ({ State.closeHandle { s with inputs := rest } with lifecycle := .closed }.reply .ok)

namespace State.Legal

variable {s : State}

/-- A word that comes next is a host command word. -/
theorem host_of_word (legal : s.Legal) {c : CodeWord} {rest : List Input} (presented : s.inputs = .word c :: rest) :
    ∃ w, c = .host w := by
  have fromHost := legal.hostDriven (.word c) (by simp [presented])
  cases c with
  | host w => exact ⟨w, rfl⟩
  | frame w => cases fromHost
  | request w => cases fromHost

/-- INITIALIZING stands only with a mark (43_driver.md R95). -/
theorem not_initializing (legal : s.Legal) (unmarked : s.marked = false) : s.lifecycle ≠ .initializing := by
  intro inside
  exact (legal.initializing inside).1 (s.marked_eq_false.1 unmarked).2

/-- Every step of a legal block is one a host drives. -/
theorem hostStepsTo (legal : s.Legal) {t : State} (stepped : step s = .next t) : s.HostStepsTo t := by
  cases stepsTo_of_step stepped with
  | idle => exact .quiet _ (.intro s.inputs s.replies s.fault s.refused List.suffix_rfl id)
  | resetRefused rest presented => exact .quiet _ (State.quietTo_refuse presented _)
  | resetTaken rest presented invalid => exact .reset rest presented invalid
  | dropped i rest presented =>
    exact .quiet _ (.intro rest s.replies s.fault s.refused (presented ▸ List.suffix_cons i rest) id)
  | secondHost rest presented => exact .quiet _ (State.quietTo_refuse presented _)
  | reservedBits w rest presented => exact .quiet _ (State.quietTo_refuse presented _)
  | ran c i rest _ presented _ spelled run =>
    obtain ⟨w, rfl⟩ := legal.host_of_word presented
    cases runsTo_of_exec run with
    | nop => exact .quiet _ (State.quietTo_reply presented _)
    | usageFault => exact .quiet _ (State.quietTo_usageFault presented _)
    | init c uninit => exact .init w c rest presented spelled uninit
    | setv v ready => exact .setv w v rest presented spelled ready
    | close ready => exact .close w rest presented spelled ready
    | closeAgain => exact .quiet _ (State.quietTo_reply presented _)
    | release => cases decodeHost_hostCommand spelled
    | request _ _ alone => cases alone.symm.trans (decodeHost_hostCommand spelled)

end State.Legal

/-- A host command gives a next state in every lifecycle state but INITIALIZING. -/
theorem exec_hostCommand_next {i : Instr} {s : State} (host : isHostCommand i = true)
    (outside : s.lifecycle ≠ .initializing) : ∃ t, exec i s = .next t := by
  cases i with
  | nop => exact ⟨_, exec_nop s⟩
  | init c =>
    cases lifecycle : s.lifecycle with
    | uninit => exact ⟨_, exec_init_of_uninit lifecycle c⟩
    | initializing => exact absurd lifecycle outside
    | ready => exact ⟨_, exec_init_of_ready lifecycle c⟩
    | closed => exact ⟨_, exec_init_of_closed lifecycle c⟩
  | setv v =>
    cases lifecycle : s.lifecycle with
    | uninit => exact ⟨_, exec_setv_of_uninit lifecycle v⟩
    | initializing => exact absurd lifecycle outside
    | ready => exact ⟨_, exec_setv_of_ready lifecycle v⟩
    | closed => exact ⟨_, exec_setv_of_closed lifecycle v⟩
  | close =>
    cases lifecycle : s.lifecycle with
    | uninit => exact ⟨_, exec_close_of_uninit lifecycle⟩
    | initializing => exact absurd lifecycle outside
    | ready => exact ⟨_, exec_close_of_ready lifecycle⟩
    | closed => exact ⟨_, exec_close_of_closed lifecycle⟩
  | _ => cases host

/-- Settles O59: a host presents only command words, and an unmarked legal block is not in INITIALIZING. -/
theorem legalStepsNeverStop : Obligations.LegalStepsNeverStop := by
  unfold Obligations.LegalStepsNeverStop
  intro s legal
  cases presented : s.inputs with
  | nil => exact ⟨s, step_of_no_input s presented⟩
  | cons i rest =>
    rcases takeInput_cases { s with inputs := rest } i with
      ⟨-, -, taken⟩ | ⟨-, -, taken⟩ | ⟨-, -, taken⟩ | ⟨-, -, taken⟩ | ⟨c, j, rfl, unmarked, spelled, taken⟩ |
      ⟨-, -, -, -, taken⟩ | ⟨c, rfl, -, -, noHost, -⟩
    · exact ⟨_, step_of_done presented taken⟩
    · exact ⟨_, step_of_done presented taken⟩
    · exact ⟨_, step_of_done presented taken⟩
    · exact ⟨_, step_of_done presented taken⟩
    · obtain ⟨w, rfl⟩ := legal.host_of_word presented
      rw [step_of_run presented taken]
      exact exec_hostCommand_next (decodeHost_hostCommand spelled) (legal.not_initializing unmarked)
    · exact ⟨_, step_of_done presented taken⟩
    · obtain ⟨w, rfl⟩ := legal.host_of_word presented
      exact absurd rfl (noHost w)

/-! ### The legal states -/

/-- An encoded frame carries the control nibble of the state's configuration (10_state.md R31). -/
theorem State.encode_nibble (s : State) (v : BitVec 16) : (s.encode v).extractLsb' 12 4 = s.controlNibble := by
  have channel : (wireChannel s.channelBug s.cfgChannel == .a) = (!s.channelBug && s.cfgChannel == .a) := by
    cases s.channelBug <;> rfl
  rw [State.encode, encodeFrame_eq_frameWord, frameWord_eq_append, channel]
  exact BitVec.extractLsb'_append_eq_left

/-- Nothing is configured, confirmed, held or kept: the registers at reset make a state legal. -/
theorem State.legal_of_reset_registers {s : State} (hostDriven : ∀ i ∈ s.inputs, i.fromHost = true)
    (lifecycle : s.lifecycle = .uninit) (cfg : s.cfgAtReset)
    (unset : s.busMode = none ∧ s.busBpw = none ∧ s.busSpeed = none ∧ s.handle = none ∧ s.frame = none) : s.Legal where
  hostDriven := hostDriven
  speed := by
    obtain ⟨-, -, -, -, -, -, -, speed, -⟩ := cfg
    rw [speed]
    decide
  uninit _ := ⟨cfg, unset⟩
  initializing inside := by cases lifecycle.symm.trans inside
  ready ready := by cases lifecycle.symm.trans ready
  closed closed := by cases lifecycle.symm.trans closed
  nibble F kept := by
    obtain ⟨-, -, -, -, frame⟩ := unset
    cases frame.symm.trans kept

theorem State.legal_reset : State.reset.Legal :=
  State.legal_of_reset_registers (by simp [State.reset]) rfl State.reset_cfgAtReset State.reset_transport_unset

/-- A failed INIT leaves a legal state: the registers are those of the reset (60_exceptions.md R105). -/
theorem State.legal_afterFailedInit {s : State} (hostDriven : ∀ i ∈ s.inputs, i.fromHost = true) (es : List Event)
    (e : TransportError) (n : Nat) : (s.afterFailedInit es e n).Legal :=
  State.legal_of_reset_registers hostDriven rfl State.reset_cfgAtReset State.reset_transport_unset

/-- The confirmed values and the handle, `CHANNEL_BUG` and the inputs are the same in both states. -/
def State.SameBus (s t : State) : Prop :=
  t.busMode = s.busMode ∧ t.busBpw = s.busBpw ∧ t.busSpeed = s.busSpeed ∧ t.handle = s.handle ∧
    t.channelBug = s.channelBug ∧ t.inputs = s.inputs

theorem sent_sameBus (s : State) (F : FrameWord) : s.SameBus (s.sent F) :=
  ⟨s.sent_busMode F, s.sent_busBpw F, s.sent_busSpeed F, s.sent_handle F, s.sent_channelBug F, s.sent_inputs F⟩

namespace State.Legal

variable {s : State}

theorem quiet (legal : s.Legal) {t : State} (quiet : s.QuietTo t) : t.Legal := by
  obtain ⟨inputs, replies, fault, refused, taken, marksStay⟩ := quiet
  exact
    { hostDriven := fun i hi => legal.hostDriven i (taken.subset hi)
      speed := legal.speed
      uninit := legal.uninit
      initializing := fun inside => ⟨marksStay (legal.initializing inside).1, (legal.initializing inside).2⟩
      ready := legal.ready
      closed := legal.closed
      nibble := legal.nibble }

/-- The state a command runs in is legal with the state that found it presented. -/
theorem taken (legal : s.Legal) {i : Input} {rest : List Input} (presented : s.inputs = i :: rest) :
    State.Legal { s with inputs := rest } :=
  legal.quiet (.intro rest s.replies s.fault s.refused (presented ▸ List.suffix_cons i rest) id)

theorem runInit (legal : s.Legal) (uninit : s.lifecycle = .uninit) (c : InitImage) : (runInit c s).Legal := by
  have speed : (clampSpeed c.speed).toNat ≤ Config.maxSpeedHz := by
    rw [clampSpeed_toNat]
    exact Nat.min_le_right _ _
  obtain ⟨-, -, -, -, -, noFrame⟩ := legal.uninit uninit
  rcases runInit_cases s c with ⟨k, e, -, -, -, -, ends⟩ | ⟨-, ⟨wordSize, -, ends⟩ | ⟨-, -, ends⟩ | ⟨-, ends⟩⟩
  · rw [ends]
    exact State.legal_afterFailedInit legal.hostDriven _ _ _
  · rw [ends]
    exact
      { hostDriven := legal.hostDriven
        speed := speed
        uninit := nofun
        initializing := nofun
        ready := fun _ => ⟨rfl, wordSize, rfl, rfl, rfl⟩
        closed := nofun
        nibble := fun F kept => by
          cases kept
          exact State.encode_nibble (s.latch c) c.value }
  · rw [ends, State.abort_eq]
    exact State.legal_afterFailedInit (s := (s.configured c).sent (s.initFrame c)) legal.hostDriven _ _ _
  · rw [ends]
    exact
      { hostDriven := legal.hostDriven
        speed := speed
        uninit := nofun
        initializing := fun _ => ⟨by simp, rfl⟩
        ready := nofun
        closed := nofun
        nibble := fun F kept => by cases noFrame.symm.trans kept }

/-- A state in READY that keeps the registers, and whose `FRAME` is kept or newly encoded, is legal again. -/
theorem readyAgain (legal : s.Legal) (ready : s.lifecycle = .ready) {t : State} (lifecycle : t.lifecycle = s.lifecycle)
    (cfg : s.SameCfg t) (bus : s.SameBus t) (frame : t.frame = s.frame ∨ ∃ v, t.frame = some (s.encode v)) :
    t.Legal := by
  obtain ⟨busMode, busBpw, busSpeed, handle, channelBug, inputs⟩ := bus
  obtain ⟨hasMode, wordSize, hasSpeed, held, hasFrame⟩ := legal.ready ready
  have again : t.lifecycle = .ready := lifecycle.trans ready
  obtain ⟨channel, buffered, gain, active, -, -, -, speed, -⟩ := cfg
  have nibble : t.controlNibble = s.controlNibble := by
    rw [State.controlNibble, State.controlNibble, channelBug, channel, buffered, gain, active]
  exact
    { hostDriven := inputs ▸ legal.hostDriven
      speed := speed ▸ legal.speed
      uninit := fun uninit => by cases again.symm.trans uninit
      initializing := fun inside => by cases again.symm.trans inside
      ready := fun _ => by
        rw [busMode, busBpw, busSpeed, handle]
        refine ⟨hasMode, wordSize, hasSpeed, held, ?_⟩
        rcases frame with kept | ⟨v, renewed⟩
        · rwa [kept]
        · rw [renewed, Option.isSome_some]
      closed := fun closed => by cases again.symm.trans closed
      nibble := fun F hF => by
        rw [nibble]
        rcases frame with kept | ⟨v, renewed⟩
        · exact legal.nibble F (kept ▸ hF)
        · cases renewed.symm.trans hF
          exact s.encode_nibble v }

theorem runSetv (legal : s.Legal) (ready : s.lifecycle = .ready) (v : BitVec 16) : (runSetv v s).Legal := by
  have sent := sent_sameDriver s (s.encode v)
  rcases runSetv_cases ready v with ⟨-, -, ends⟩ | ⟨-, -, ends⟩ | ⟨otherWordSize, -⟩
  · rw [ends]
    exact legal.readyAgain ready sent.lifecycle sent.cfg (sent_sameBus s (s.encode v))
      (.inr ⟨v, rfl⟩)
  · rw [ends]
    exact legal.readyAgain ready sent.lifecycle sent.cfg (sent_sameBus s (s.encode v))
      (.inl sent.frame)
  · obtain ⟨-, wordSize, -⟩ := legal.ready ready
    exact absurd wordSize otherWordSize

theorem close (legal : s.Legal) : ({ s.closeHandle with lifecycle := .closed }.reply .ok).Legal where
  hostDriven := by simpa [State.reply] using legal.hostDriven
  speed := by simpa [State.reply] using legal.speed
  uninit := nofun
  initializing := nofun
  ready := nofun
  closed _ := s.closeHandle_handle
  nibble F kept := by
    have kept : s.frame = some F := by simpa [State.reply] using kept
    simpa [State.reply, State.controlNibble] using legal.nibble F kept

end State.Legal

/-- Settles O57: each of the five steps a host drives leads to a legal state. -/
theorem stepKeepsLegal : Obligations.StepKeepsLegal := by
  unfold Obligations.StepKeepsLegal
  intro s t legal stepped
  cases legal.hostStepsTo stepped with
  | quiet _ quiet => exact legal.quiet quiet
  | reset rest presented =>
    exact State.legal_of_reset_registers (legal.taken presented).hostDriven rfl State.reset_cfgAtReset
      State.reset_transport_unset
  | init w c rest presented _ uninit => exact (legal.taken presented).runInit uninit c
  | setv w v rest presented _ ready => exact (legal.taken presented).runSetv ready v
  | close w rest presented => exact (legal.taken presented).close

/-- Where the four ends of INIT leave `STATE`. -/
theorem runInit_lifecycle (c : InitImage) (s : State) :
    (runInit c s).lifecycle = .uninit ∨
      (runInit c s).lifecycle = .ready ∧ (runInit c s).replies = s.replies ++ [.ok] ∨
      (runInit c s).lifecycle = .initializing ∧ (runInit c s).refused = s.refused ++ [.bitsPerWordNot8] := by
  rcases runInit_cases s c with ⟨k, e, -, -, -, -, ends⟩ | ⟨-, ⟨-, -, ends⟩ | ⟨-, -, ends⟩ | ⟨-, ends⟩⟩
  · rw [ends]
    exact .inl rfl
  · rw [ends]
    exact .inr (.inl ⟨rfl, rfl⟩)
  · rw [ends]
    exact .inl (State.abort_lifecycle _ _)
  · rw [ends]
    exact .inr (.inr ⟨rfl, rfl⟩)

theorem runSetv_lifecycle {s : State} (ready : s.lifecycle = .ready) (v : BitVec 16) :
    (runSetv v s).lifecycle = s.lifecycle := by
  rcases runSetv_cases ready v with ⟨-, -, ends⟩ | ⟨-, -, ends⟩ | ⟨-, ends⟩ <;> rw [ends] <;> rfl

/-- Settles O60: the five steps a host drives, by where they leave `STATE`; a reset finds no handle, so the block is in
UNINIT or CLOSED. -/
theorem lifecycleTransitionsAreExactlyThese : Obligations.LifecycleTransitionsAreExactlyThese := by
  unfold Obligations.LifecycleTransitionsAreExactlyThese
  intro s t legal stepped
  cases legal.hostStepsTo stepped with
  | quiet _ quiet =>
    obtain ⟨_, _, _, _, -, -⟩ := quiet
    exact .inl rfl
  | reset rest presented invalid =>
    cases lifecycle : s.lifecycle with
    | uninit => exact .inl rfl
    | initializing => simpa [invalid] using (legal.initializing lifecycle).2
    | ready =>
      obtain ⟨-, -, -, held, -⟩ := legal.ready lifecycle
      simp [invalid] at held
    | closed => exact .inr (.inr (.inr ⟨by rw [presented]; rfl, rfl, rfl⟩))
  | init w c rest presented spelled uninit =>
    rcases runInit_lifecycle c { s with inputs := rest } with failed | ends
    · exact .inl (failed.trans uninit.symm)
    · exact .inr (.inl ⟨w, c, by rw [presented]; rfl, spelled, uninit, ends⟩)
  | setv w v rest _ _ ready => exact .inl (runSetv_lifecycle (s := { s with inputs := rest }) ready v)
  | close w rest presented spelled ready =>
    exact .inr (.inr (.inl ⟨w, by rw [presented]; rfl, spelled, ready, rfl⟩))

end Sys2Proof.Machine
end

section
/-! The bus protocol: what each host command adds to the trace and to the wire, and that the phase of the trace
follows (41_transport_lifecycle.md R77 to R79, 43_driver.md R92 to R94). -/

namespace Sys2Proof.Machine

/-! ### Phases -/

theorem BusPhase.after_append (p : BusPhase) (es new : List Event) :
    p.after (es ++ new) = (p.after es).bind fun q => q.after new := by
  induction es generalizing p with
  | nil => rfl
  | cons e es ih =>
    rw [List.cons_append, BusPhase.after, BusPhase.after]
    cases p.next e with
    | none => rfl
    | some q => exact ih q

theorem BusPhase.after_append_of {p q : BusPhase} {es : List Event} (h : p.after es = some q) (new : List Event) :
    p.after (es ++ new) = q.after new := by
  rw [BusPhase.after_append, h]
  rfl

/-! ### What a command adds -/

/-- What an event puts on the bus, as its transmission shows it. -/
def Transmission.shown (w : Transmission) : FrameWord × Option (BitVec 32) × BitVec 16 :=
  (w.sent, w.speedHz, w.delayUs)

/-- Events and transmissions that may be added where the trace stands at `p`, so that it stands at `q` after them. -/
structure Extends (rxLen : Nat) (p q : BusPhase) (new : List Event) (more : List Transmission) : Prop where
  phase : p.after new = some q
  lawful : ∀ e ∈ new, e.lawful rxLen
  wired : more.map Transmission.shown = new.filterMap Event.onWire
  modes : ∀ w ∈ more, w.mode.isSome

theorem Extends.append {rxLen : Nat} {p q r : BusPhase} {new new' : List Event} {more more' : List Transmission}
    (h : Extends rxLen p q new more) (h' : Extends rxLen q r new' more') :
    Extends rxLen p r (new ++ new') (more ++ more') where
  phase := (BusPhase.after_append_of h.phase new').trans h'.phase
  lawful e he := (List.mem_append.1 he).elim (h.lawful e) (h'.lawful e)
  wired := by rw [List.map_append, List.filterMap_append, h.wired, h'.wired]
  modes w hw := (List.mem_append.1 hw).elim (h.modes w) (h'.modes w)

/-- A trace on the protocol, extended by what may follow, is on the protocol. -/
theorem State.OnProtocol.extend {s t : State} {new : List Event} {more : List Transmission} (h : s.OnProtocol)
    (added : Extends s.rxLen s.lifecycle.busPhase t.lifecycle.busPhase new more) (trace : t.trace = s.trace ++ new)
    (wire : t.wire = s.wire ++ more) (rxExtra : t.rxExtra = s.rxExtra) : t.OnProtocol where
  phase := by rw [trace, BusPhase.after_append_of h.phase, added.phase]
  lawful e he := by
    rw [State.rxLen_congr rxExtra]
    rw [trace] at he
    exact (List.mem_append.1 he).elim (h.lawful e) (added.lawful e)
  wired := by
    rw [trace, wire, List.map_append, List.filterMap_append, h.wired]
    exact congrArg _ added.wired
  modes w hw := by
    rw [wire] at hw
    exact (List.mem_append.1 hw).elim (h.modes w) (added.modes w)

/-- One RELEASE, where the protocol has it. -/
theorem extends_release (rxLen : Nat) {p : BusPhase} (h : p.next .release = some .closed) :
    Extends rxLen p .closed [.release] [] where
  phase := by rw [BusPhase.after, h]; rfl
  lawful e he := by
    cases List.mem_singleton.1 he
    trivial
  wired := rfl
  modes := nofun

/-- One TRANSFER in a confirmed mode at word size 8, where the protocol has it. -/
theorem extends_transfer {s : State} {F : FrameWord} {st : Status} {p q : BusPhase}
    (h : p.next (s.transferEvent F st) = some q) (wordSize : s.busBpw = some 8) {w : Transmission}
    (shown : w.shown = (F, s.busSpeed, s.cfgDelay)) (mode : w.mode.isSome = true) :
    Extends s.rxLen p q [s.transferEvent F st] [w] where
  phase := by rw [BusPhase.after, h]; rfl
  lawful e he := by
    cases List.mem_singleton.1 he
    exact ⟨rfl, wordSize, rfl⟩
  wired := by
    rw [List.map_singleton, shown]
    simp [Event.onWire, State.transferEvent, frame_bytes]
  modes w' hw := by
    cases List.mem_singleton.1 hw
    exact mode

/-! ### INIT (43_driver.md R92) -/

/-- The requests of OPEN and CONFIGURE keep the spec's bounds and put nothing on the bus. -/
theorem State.initEvents_take_lawful (s : State) (c : InitImage) (rxLen : Nat) :
    ∀ e ∈ (s.initEvents c).take 7, e.lawful rxLen ∧ e.onWire = none := by
  have speed : (clampSpeed c.speed).toNat ≤ Config.maxSpeedHz := by
    rw [clampSpeed_toNat]
    exact Nat.min_le_right _ _
  simpa [State.initEvents, Event.lawful, Event.onWire] using speed

/-- The first requests of INIT, as far as they go. -/
theorem State.extends_initEvents_take {s : State} {c : InitImage} {n : Nat} {q : BusPhase} (h : n ≤ 7)
    (phase : BusPhase.closed.after ((s.initEvents c).take n) = some q) :
    Extends s.rxLen .closed q ((s.initEvents c).take n) [] where
  phase := phase
  lawful e he := (s.initEvents_take_lawful c s.rxLen e (List.take_subset_take_left _ h he)).1
  wired := (List.filterMap_eq_nil_iff.2 fun e he =>
    (s.initEvents_take_lawful c s.rxLen e (List.take_subset_take_left _ h he)).2).symm
  modes := nofun

/-- All seven accepted: CONFIGURE is complete. -/
theorem State.extends_configured {s : State} {c : InitImage} (accepted : ∀ k, k < 7 → (s.answer k).accept = true) :
    Extends s.rxLen .closed .configured ((s.initEvents c).take 7) [] := by
  refine State.extends_initEvents_take le_rfl ?_
  simp [State.initEvents, BusPhase.after, BusPhase.next, openAnswer, readAnswer, accepted]

/-- A rejected OPEN leaves no handle; any later request that is rejected leaves one to release. -/
theorem State.extends_rejected {s : State} {c : InitImage} {k : Nat} (inRange : k < 7)
    (before : ∀ j, j < k → (s.answer j).accept = true) (rejected : (s.answer k).accept = false) :
    Extends s.rxLen .closed (if k = 0 then .closed else .failed) ((s.initEvents c).take (k + 1)) [] := by
  refine State.extends_initEvents_take (by omega) ?_
  interval_cases k <;>
    simp [State.initEvents, BusPhase.after, BusPhase.next, openAnswer, readAnswer, before, rejected]

/-- The initial frame, sent after CONFIGURE. -/
theorem State.extends_initialFrame {s : State} {c : InitImage} (accepted : ∀ k, k < 7 → (s.answer k).accept = true)
    (wordSize : (s.configured c).busBpw = some 8) {q : BusPhase}
    (phase : q = if statusFailed (s.answer 7).word then .failed else .live) :
    Extends s.rxLen .closed q (s.initEvents c) [(s.configured c).transmission (s.initFrame c)] := by
  have next : BusPhase.configured.next ((s.configured c).transferEvent (s.initFrame c) (s.answer 7).word) = some q := by
    rw [phase]
    rfl
  have sent := extends_transfer next wordSize (w := (s.configured c).transmission (s.initFrame c)) rfl rfl
  rw [s.initEvents_eq c accepted]
  exact (State.extends_configured accepted).append sent

theorem State.OnProtocol.runInit {s : State} (h : s.OnProtocol) (wf : s.buffersWf = true)
    (uninit : s.lifecycle = .uninit) (invalid : s.handle = none) (c : InitImage) : (runInit c s).OnProtocol := by
  have start : s.lifecycle.busPhase = .closed := by
    rw [uninit]
    rfl
  rcases runInit_cases s c with
    ⟨k, e, inRange, before, rejected, -, ends⟩ |
    ⟨accepted, ⟨wordSize, taken, ends⟩ | ⟨wordSize, failed, ends⟩ | ⟨-, ends⟩⟩
  · have added := State.extends_rejected (c := c) inRange before rejected
    rw [ends]
    by_cases atOpen : k = 0
    · simp only [atOpen, if_true] at added
      refine h.extend (new := (s.initEvents c).take 1) (more := [])
        ?_ (by simp [State.afterFailedInit, atOpen, invalid]) (by simp [State.afterFailedInit]) rfl
      exact start ▸ added
    · simp only [atOpen, if_false] at added
      refine h.extend (new := (s.initEvents c).take (k + 1) ++ [.release]) (more := [])
        ?_ (by simp [State.afterFailedInit, atOpen]) (by simp [State.afterFailedInit]) rfl
      exact start ▸ added.append (extends_release s.rxLen rfl)
  · rw [ends]
    refine h.extend ?_ (State.configured_sent_trace wf accepted) rfl rfl
    exact start ▸ State.extends_initialFrame accepted wordSize (by rw [taken]; rfl)
  · have added := (State.extends_initialFrame (q := .failed) accepted wordSize (by rw [failed]; rfl)).append
      (extends_release s.rxLen rfl)
    have trace : (((s.configured c).sent (s.initFrame c)).abort .transferFailed).trace =
        s.trace ++ (s.initEvents c ++ [.release]) := by
      rw [State.abort_trace, State.closeHandle_trace, State.configured_sent_trace wf accepted, List.append_assoc]
      rfl
    rw [ends]
    exact h.extend (start ▸ (State.abort_lifecycle _ _).symm ▸ added) trace (State.abort_wire _ _)
      (State.abort_rxExtra _ _)
  · rw [ends]
    refine h.extend (new := (s.initEvents c).take 7) (more := []) ?_ rfl (by simp [State.configured]) rfl
    exact start ▸ State.extends_configured accepted

/-! ### SETV and CLOSE in READY (43_driver.md R93, R94) -/

/-- One answered TRANSFER in READY, whatever its status. -/
theorem State.OnProtocol.sent {s t : State} (h : s.OnProtocol) (wf : s.buffersWf = true) (legal : s.Legal)
    (ready : s.lifecycle = .ready) {F : FrameWord} (lifecycle : t.lifecycle = s.lifecycle)
    (trace : t.trace = (s.sent F).trace) (wire : t.wire = (s.sent F).wire) (rxExtra : t.rxExtra = s.rxExtra) :
    t.OnProtocol := by
  obtain ⟨busMode, wordSize, -⟩ := legal.ready ready
  have added : Extends s.rxLen .live .live [s.transferEvent F (s.answer 0).word] [s.transmission F] :=
    extends_transfer rfl wordSize rfl busMode
  refine h.extend ?_ (trace.trans (State.sent_trace_eq wf F)) (wire.trans (s.sent_wire F)) rxExtra
  rw [lifecycle, ready]
  exact added

theorem State.OnProtocol.runSetv {s : State} (h : s.OnProtocol) (wf : s.buffersWf = true) (legal : s.Legal)
    (ready : s.lifecycle = .ready) (v : BitVec 16) : (runSetv v s).OnProtocol := by
  rcases runSetv_cases ready v with ⟨-, -, ends⟩ | ⟨-, -, ends⟩ | ⟨otherWordSize, -⟩
  · rw [ends]
    exact h.sent wf legal ready (s.sent_lifecycle (s.encode v)) rfl rfl (s.sent_rxExtra (s.encode v))
  · rw [ends]
    exact h.sent wf legal ready (s.sent_lifecycle (s.encode v)) rfl rfl (s.sent_rxExtra (s.encode v))
  · obtain ⟨-, wordSize, -⟩ := legal.ready ready
    exact absurd wordSize otherWordSize

theorem State.OnProtocol.close {s : State} (h : s.OnProtocol) (legal : s.Legal) (ready : s.lifecycle = .ready) :
    ({ s.closeHandle with lifecycle := .closed }.reply .ok).OnProtocol := by
  obtain ⟨-, -, -, held, -⟩ := legal.ready ready
  refine h.extend (new := [.release]) (more := []) ?_ ?_ ?_ s.closeHandle_rxExtra
  · rw [ready]
    exact extends_release s.rxLen rfl
  · exact s.closeHandle_trace.trans (by rw [if_pos held])
  · exact s.closeHandle_wire.trans (List.append_nil _).symm

/-! ### Every step -/

theorem State.OnProtocol.quiet {s t : State} (h : s.OnProtocol) (quiet : s.QuietTo t) : t.OnProtocol := by
  obtain ⟨inputs, replies, fault, refused, -, -⟩ := quiet
  exact ⟨h.phase, h.lawful, h.wired, h.modes⟩

theorem State.OnProtocol.taken {s : State} (h : s.OnProtocol) (rest : List Input) :
    State.OnProtocol { s with inputs := rest } :=
  ⟨h.phase, h.lawful, h.wired, h.modes⟩

/-- The empty trace of a block after reset. -/
theorem State.onProtocol_powerOn (s : State) : s.powerOn.OnProtocol :=
  ⟨rfl, nofun, rfl, nofun⟩

/-- Settles O30: each of the five steps a host drives adds what the protocol has next. -/
theorem stepKeepsTheBusProtocol : Obligations.StepKeepsTheBusProtocol := by
  unfold Obligations.StepKeepsTheBusProtocol
  intro s t legal onProtocol wf stepped
  cases legal.hostStepsTo stepped with
  | quiet _ quiet => exact onProtocol.quiet quiet
  | reset rest => exact State.onProtocol_powerOn _
  | init w c rest _ _ uninit =>
    obtain ⟨-, -, -, -, invalid, -⟩ := legal.uninit uninit
    exact (onProtocol.taken rest).runInit wf uninit invalid c
  | setv w v rest presented _ ready => exact (onProtocol.taken rest).runSetv wf (legal.taken presented) ready v
  | close w rest presented _ ready => exact (onProtocol.taken rest).close (legal.taken presented) ready

/-- Settles O56: the reset state is legal, and its trace and its buffers are empty. -/
theorem resetSatisfiesTheInvariants : Obligations.ResetSatisfiesTheInvariants := by
  unfold Obligations.ResetSatisfiesTheInvariants
  exact ⟨State.legal_reset, ⟨rfl, nofun, rfl, nofun⟩, rfl, rfl, rfl⟩

/-! ### Opens and releases (41_transport_lifecycle.md R78) -/

/-- The handles held in a phase of the protocol. -/
def BusPhase.held (p : BusPhase) : Nat := if p = .closed then 0 else 1

/-- With no handle only OPEN may come; RELEASE ends the other phases; every other event stays among them. -/
theorem BusPhase.next_cases {p q : BusPhase} {e : Event} (h : p.next e = some q) :
    (∃ path answer, p = .closed ∧ e = .openBus path answer ∧ q = if answer.isSome then .opened else .closed) ∨
      p ≠ .closed ∧ e = .release ∧ q = .closed ∨
      p ≠ .closed ∧ q ≠ .closed ∧ e.opensHandle = false ∧ e.releasesHandle = false := by
  cases p with
  | closed =>
    cases e with
    | openBus path answer => exact .inl ⟨path, answer, rfl, rfl, (Option.some.inj h).symm⟩
    | _ => cases h
  | live =>
    cases e with
    | transfer d st =>
      cases h
      exact .inr (.inr ⟨nofun, nofun, rfl, rfl⟩)
    | release =>
      cases h
      exact .inr (.inl ⟨nofun, rfl, rfl⟩)
    | _ => cases h
  | failed =>
    cases e with
    | release =>
      cases h
      exact .inr (.inl ⟨nofun, rfl, rfl⟩)
    | _ => cases h
  | _ =>
    cases e <;> cases h
    refine .inr (.inr ⟨nofun, ?_, rfl, rfl⟩)
    split <;> nofun

/-- An event that the protocol allows opens or releases a handle exactly where the number held changes. -/
theorem BusPhase.held_next {p q : BusPhase} {e : Event} (h : p.next e = some q) :
    p.held + (if e.opensHandle then 1 else 0) = q.held + (if e.releasesHandle then 1 else 0) := by
  rcases BusPhase.next_cases h with ⟨path, answer, rfl, rfl, rfl⟩ | ⟨hp, rfl, rfl⟩ | ⟨hp, hq, opens, releases⟩
  · cases answer <;> rfl
  · simp [BusPhase.held, hp, Event.opensHandle, Event.releasesHandle]
  · simp [BusPhase.held, hp, hq, opens, releases]

/-- Along the protocol, what was opened is what was released and what is held. -/
theorem BusPhase.held_after {p q : BusPhase} {es : List Event} (h : p.after es = some q) :
    p.held + es.countP Event.opensHandle = q.held + es.countP Event.releasesHandle := by
  induction es generalizing p with
  | nil =>
    cases h
    rfl
  | cons e es ih =>
    obtain ⟨r, next, rest⟩ := Option.bind_eq_some_iff.1 h
    have one := BusPhase.held_next next
    have more := ih rest
    rw [List.countP_cons, List.countP_cons]
    omega

/-- A legal state holds a handle exactly where its phase does. -/
theorem State.Legal.held {s : State} (legal : s.Legal) :
    s.lifecycle.busPhase.held = if s.handle.isSome then 1 else 0 := by
  cases lifecycle : s.lifecycle with
  | uninit =>
    obtain ⟨-, -, -, -, invalid, -⟩ := legal.uninit lifecycle
    simp [invalid, Lifecycle.busPhase, BusPhase.held]
  | initializing => simp [(legal.initializing lifecycle).2, Lifecycle.busPhase, BusPhase.held]
  | ready =>
    obtain ⟨-, -, -, held, -⟩ := legal.ready lifecycle
    simp [held, Lifecycle.busPhase, BusPhase.held]
  | closed => simp [legal.closed lifecycle, Lifecycle.busPhase, BusPhase.held]

/-- Settles O31: `BusPhase.held_after` from the phase of no handle to that of the state. -/
theorem opensAndReleasesBalance : Obligations.OpensAndReleasesBalance := by
  unfold Obligations.OpensAndReleasesBalance
  intro s legal onProtocol
  have balance := BusPhase.held_after onProtocol.phase
  rw [legal.held, BusPhase.held, if_pos rfl] at balance
  omega

end Sys2Proof.Machine
end
